-- ==== Sys2Proof/Word.lean ====
section
/-!
DEFINITION. The names and plain data that commands and state are made of: links, lanes, levels, moments,
bag and bin names, and the fixed-size table. Spec: 00_scope.md (terms and conventions) and the chapters named
at each type.
-/
namespace Sys2Proof

/-- One character of a link frame (R192). -/
abbrev Byte := BitVec 8

/-- A tamper tag's serial, as the number its ten decimal digits spell (R2). Below 10 ^ 10. -/
abbrev Tag := Nat

/-- A depositor's or courier's card number, as the number its twelve decimal digits spell (R89, R174). -/
abbrev Card := Nat

/-- A bin, named by its bin index rack × 16 + slot (R27). -/
abbrev BinIdx := Fin 128

/-- A rack of the cabinet (R27). -/
abbrev RackIdx := Fin 8

/-- A depositor index (R89). -/
abbrev DepIdx := Fin 256

/-- A table of exactly `n` entries, held as a list so that states can be compared and written out. -/
structure Table (α : Type) (n : Nat) where
  items : List α
  size_eq : items.length = n
  deriving DecidableEq, Repr

/-- The entry at `i`. -/
def Table.get {α : Type} {n : Nat} (t : Table α n) (i : Fin n) : α :=
  t.items[i.val]'(by rw [t.size_eq]; exact i.isLt)

/-- The table with the entry at `i` replaced. -/
def Table.set {α : Type} {n : Nat} (t : Table α n) (i : Fin n) (a : α) : Table α n :=
  ⟨t.items.set i.val a, by rw [List.length_set]; exact t.size_eq⟩

/-- The table whose entry at `i` is `f i`. -/
def Table.ofFn {α : Type} {n : Nat} (f : Fin n → α) : Table α n :=
  ⟨List.ofFn f, List.length_ofFn⟩

/-- The table that holds `a` everywhere. -/
def Table.const {α : Type} (n : Nat) (a : α) : Table α n :=
  ⟨List.replicate n a, List.length_replicate⟩

/-- The three links and the masters at their far ends (R191). -/
inductive Link where
  | branch | security | courier
  deriving DecidableEq, Repr

/-- The two street-wall drop lanes (R50). -/
inductive LaneId where
  | a | b
  deriving DecidableEq, Repr

/-- The other lane. -/
def LaneId.other : LaneId → LaneId
  | .a => .b
  | .b => .a

/-- The four access levels SEALED, COURIER, INSPECT and OPEN (00_scope.md, Levels). -/
inductive Level where
  | sealed | courier | inspect | opened
  deriving DecidableEq, Repr

/-- The order SEALED < COURIER < INSPECT < OPEN, as a number; also the level byte of R197. -/
def Level.rank : Level → Nat
  | .sealed => 0
  | .courier => 1
  | .inspect => 2
  | .opened => 3

/-- The class of a bag and of a rack: NORMAL or INSPECT. -/
inductive BagClass where
  | normal | inspect
  deriving DecidableEq, Repr

/-- The other class. -/
def BagClass.other : BagClass → BagClass
  | .normal => .inspect
  | .inspect => .normal

/-- A pocket door as its switch shows it (R28). -/
inductive Door where
  | closed | opened
  deriving DecidableEq, Repr

/-- A lane's four digital inputs (R55). -/
inductive LaneInput where
  | drawerClosed | drawerLocked | bagPresent | drawerForced
  deriving DecidableEq, Repr

/-- A lane's three actuator outputs (R56). -/
inductive Actuator where
  | lock | tip | ret
  deriving DecidableEq, Repr

/-- A key of a lane's keypad (R59, R60). -/
inductive Key where
  | digit (d : Fin 10)
  | clear
  | enter
  | cancel
  deriving DecidableEq, Repr

/-- A scale sample, and a capture: a mass in decigrams, or over-range (R63). -/
inductive Reading where
  | mass (dg : Nat)
  | overRange
  deriving DecidableEq, Repr

/-- The filtered values of a lane's four inputs (R55). -/
structure LaneInputs where
  drawerClosed : Bool
  drawerLocked : Bool
  bagPresent : Bool
  drawerForced : Bool
  deriving DecidableEq, Repr

/-- The cabinet's field lines as they are first found at a cold start or at a return from RETENTION (R48, R49, R54, R55,
R143): bit i of `doorsOpen` is set when bin i's pocket door is OPEN. -/
structure CabinetLines where
  doorsOpen : BitVec 128
  inputsA : LaneInputs
  inputsB : LaneInputs
  deriving DecidableEq, Repr

/-- The receive lines of the two links that stop in RETENTION, as they are found when these start (R202): a link's flag
is set when its line stands at space. -/
structure RestartLines where
  branchSpace : Bool
  courierSpace : Bool
  deriving DecidableEq, Repr

/-- Every field line as found at a cold start (R48, R49, R54, R202): at a start all three receive lines are taken. -/
structure FieldLines extends CabinetLines, RestartLines where
  securitySpace : Bool
  deriving DecidableEq, Repr

/-- How a request names a record (R158): by tag serial or by receipt number, as its field is carried (R197). -/
inductive RecordKey where
  | tag (packed : BitVec 40)
  | receipt (n : BitVec 24)
  deriving DecidableEq, Repr

/-- How READ DEPOSITOR names an entry (R95). -/
inductive DepositorKey where
  | index (i : BitVec 8)
  | card (packed : BitVec 48)
  deriving DecidableEq, Repr

/-- The order of a listing (R168). -/
inductive ListOrder where
  | ascending | wrap
  deriving DecidableEq, Repr

/-- The six active levels of configuration field 18 as a SET CONFIG carries them (R204): `some true` is
active-high, `some false` active-low and `none` any other value. -/
structure CarriedLevels where
  aLock : Option Bool
  aTip : Option Bool
  aReturn : Option Bool
  bLock : Option Bool
  bTip : Option Bool
  bReturn : Option Bool
  deriving DecidableEq, Repr

/-- One field carried by a SET CONFIG, by its number in the table of R203, in the size of R197. -/
inductive ConfigWrite where
  /-- field 1, verification interval V -/
  | verificationInterval (v : BitVec 8)
  /-- field 2, rack hold maximum -/
  | rackHoldMax (v : BitVec 8)
  /-- field 3, courier delay -/
  | courierDelay (v : BitVec 8)
  /-- field 4, opening delay -/
  | openingDelay (v : BitVec 8)
  /-- field 5, confirm window -/
  | confirmWindow (v : BitVec 8)
  /-- field 6, rate window length -/
  | rateWindow (v : BitVec 8)
  /-- field 7, count tolerance -/
  | countTolerance (v : BitVec 32)
  /-- field 8, scale tolerance tol -/
  | scaleTolerance (v : BitVec 24)
  /-- field 9, margin m -/
  | margin (v : BitVec 24)
  /-- field 10, tare band -/
  | tareBand (low high : BitVec 24)
  /-- field 11, silver-gold densities -/
  | silverDensity (low high : BitVec 16)
  /-- field 12, bronze densities -/
  | bronzeDensity (low high : BitVec 16)
  /-- field 13, bin mass limit -/
  | binMassLimit (v : BitVec 24)
  /-- field 14, INSPECT racks -/
  | inspectRacks (v : BitVec 8)
  /-- field 15, listing burst length -/
  | burstLength (v : BitVec 8)
  /-- field 16, listing order; `none` is a value that is no order -/
  | listOrder (v : Option ListOrder)
  /-- field 17, week offset -/
  | weekOffset (v : BitVec 8)
  /-- field 18, actuator active levels -/
  | activeLevels (v : CarriedLevels)
  deriving DecidableEq, Repr

/-- The trust source of a TRIAL CHECK (R88) as carried: a trust value, a depositor index, both or neither. -/
structure TrustSource where
  trust : Option (BitVec 8)
  index : Option (BitVec 8)
  deriving DecidableEq, Repr

/-- The filter of a LIST as carried (R169): the state set over the nine states of R2 with RESERVED in the lowest
bit, and the optional parts. `result` is `some true` for WITH RESULT and `some false` for WITHOUT RESULT. -/
structure ListFilter where
  states : BitVec 16
  flags : Option (BitVec 8)
  holdClass : Option BagClass
  depositor : Option (BitVec 8)
  result : Option Bool
  deriving DecidableEq, Repr

/-- The optional parts of ENROL and EDIT that are not the card (R91, R92): the valid-level set over the four
levels, SEALED in the lowest bit, the per-bag limit in pence, and the drop limit. -/
structure DepositorTerms where
  levels : Option (BitVec 8)
  perBag : Option (BitVec 32)
  drops : Option (BitVec 8)
  deriving DecidableEq, Repr

end Sys2Proof
end

