-- ==== Sys2Proof/Syntax.lean ====
section
/-!
DEFINITION. The commands the controller takes: one constructor for each row of spec/opcode_table.json, in the
table's order. A request carries the link it arrives on and its fields in the sizes of R197, so that every value a
master can send is a command; an event carries what the field line, the reader or the timer reports.
-/
namespace Sys2Proof

/-- A command: a request taken from a link, a change on a field line, the expiry of a timer, or a change of
power. -/
inductive Instr where
  -- reads carried on more than one link
  /-- READ NOTICES (R201) -/
  | readNotices (link : Link)
  /-- READ LEVEL (R121) -/
  | readLevel (link : Link)
  /-- READ RACK (R142) -/
  | readRack (link : Link) (rack : BitVec 8)
  /-- READ SWEEP (R157) -/
  | readSweep (link : Link)
  /-- READ WINDOWS (R110) -/
  | readWindows (link : Link)
  /-- READ CONFIG (R204) -/
  | readConfig (link : Link)
  /-- READ CLOCK (R205) -/
  | readClock (link : Link)
  /-- READ POWER (R208) -/
  | readPower (link : Link)
  -- lanes from the branch
  /-- LANE STATUS (R76) -/
  | laneStatus (link : Link) (lane : LaneId)
  /-- LANE CLOSE (R73) -/
  | laneClose (link : Link) (lane : LaneId)
  /-- LANE OPEN (R73) -/
  | laneOpen (link : Link) (lane : LaneId)
  /-- LANE SERVICE (R74) -/
  | laneService (link : Link) (lane : LaneId)
  /-- LANE SERVICE END (R74) -/
  | laneServiceEnd (link : Link) (lane : LaneId)
  /-- LANE DRIVE (R75): the pulse length in milliseconds -/
  | laneDrive (link : Link) (lane : LaneId) (output : Actuator) (length : BitVec 16)
  /-- TRIAL CHECK (R88): the declaration, the capture (0xFFFFFF is over-range) and the trust source -/
  | trialCheck (link : Link) (notes silver bronze : BitVec 32) (capture : BitVec 24) (source : TrustSource)
  -- levels
  /-- REQUEST LEVEL (R106, R107) -/
  | requestLevel (link : Link) (level : BitVec 8)
  /-- CONFIRM (R118) -/
  | confirm (link : Link)
  /-- SET CEILING (R108) -/
  | setCeiling (link : Link) (level : BitVec 8)
  /-- RAISE DURESS (R109) -/
  | raiseDuress (link : Link)
  /-- CLEAR DURESS (R109) -/
  | clearDuress (link : Link)
  /-- SET WINDOW (R110): MON is the lowest bit of the days set -/
  | setWindow (link : Link) (slot days : BitVec 8) (startMinute endMinute : BitVec 16) (level : BitVec 8)
  /-- CLEAR WINDOW (R110) -/
  | clearWindow (link : Link) (slot : BitVec 8)
  -- racks and bins
  /-- SELECT RACK (R127, R128) -/
  | selectRack (link : Link) (rack : BitVec 8)
  /-- UNLATCH BIN (R130) -/
  | unlatchBin (link : Link) (slot : BitVec 8)
  /-- RELATCH BIN (R132) -/
  | relatchBin (link : Link) (slot : BitVec 8)
  /-- RELEASE RACK (R134) -/
  | releaseRack (link : Link)
  /-- WITHDRAW BIN (R32) -/
  | withdrawBin (link : Link) (bin : BitVec 8)
  /-- RESTORE BIN (R34) -/
  | restoreBin (link : Link) (bin : BitVec 8)
  /-- RACK INVENTORY (R150) -/
  | rackInventory (link : Link) (rack : BitVec 8)
  /-- READ STRAYS (R156, R198): the part asked for, if one is carried -/
  | readStrays (link : Link) (part : Option (BitVec 8))
  /-- CLEAR STRAYS (R156): a count, or `none` for ALL -/
  | clearStrays (link : Link) (count : Option (BitVec 8))
  -- records
  /-- READ RECORD (R166) -/
  | readRecord (link : Link) (key : RecordKey)
  /-- READ BIN (R167) -/
  | readBin (link : Link) (bin : BitVec 8)
  /-- READ RESERVATIONS (R167, R198) -/
  | readReservations (link : Link) (part : Option (BitVec 8))
  /-- LIST (R169) -/
  | list (link : Link) (start : BitVec 24) (filter : ListFilter)
  /-- LIST NEXT (R172) -/
  | listNext (link : Link)
  /-- STOP LIST (R173) -/
  | stopList (link : Link)
  /-- TAKE BAG (R159): the tag serial, packed two digits to a byte -/
  | takeBag (link : Link) (tag : BitVec 40)
  /-- PUT BACK (R162) -/
  | putBack (link : Link) (tag : BitVec 40) (bin : BitVec 8)
  /-- POST RESULT (R164): the counted value in pence -/
  | postResult (link : Link) (receipt : BitVec 24) (counted : BitVec 32)
  /-- RETIRE (R165) -/
  | retire (link : Link) (receipt : BitVec 24)
  -- the manifest
  /-- OPEN MANIFEST (R175): the courier card, packed two digits to a byte -/
  | openManifest (link : Link) (card : BitVec 48)
  /-- ADD (R176) -/
  | add (link : Link) (receipt : BitVec 24)
  /-- REMOVE of a manifest entry (R177) -/
  | removeManifestEntry (link : Link) (receipt : BitVec 24)
  /-- SEAL (R178) -/
  | sealManifest (link : Link)
  /-- CANCEL (R179) -/
  | cancel (link : Link)
  /-- CLOSE MANIFEST (R189) -/
  | closeManifest (link : Link)
  /-- READ MANIFEST (R181, R198) -/
  | readManifest (link : Link) (part : Option (BitVec 8))
  /-- LOGIN (R182) -/
  | login (link : Link) (card : BitVec 48)
  /-- SCAN (R184, R185) -/
  | scan (link : Link) (tag : BitVec 40)
  /-- LOGOUT (R188) -/
  | logout (link : Link)
  -- depositors
  /-- ENROL (R91) -/
  | enrol (link : Link) (card : BitVec 48) (terms : DepositorTerms)
  /-- EDIT (R92) -/
  | edit (link : Link) (index : BitVec 8) (card : Option (BitVec 48)) (terms : DepositorTerms)
  /-- SUSPEND (R93) -/
  | suspend (link : Link) (index : BitVec 8)
  /-- RESTORE of a depositor (R93) -/
  | restoreDepositor (link : Link) (index : BitVec 8)
  /-- REMOVE of a depositor (R94) -/
  | removeDepositor (link : Link) (index : BitVec 8)
  /-- READ DEPOSITOR (R95) -/
  | readDepositor (link : Link) (key : DepositorKey)
  -- configuration and clock
  /-- SET CONFIG (R204) -/
  | setConfig (link : Link) (writes : List ConfigWrite)
  /-- SET CLOCK (R206) -/
  | setClock (link : Link) (day : BitVec 16) (second : BitVec 24)
  -- the links themselves
  /-- a good frame whose code is unknown or not carried on its link (R195) -/
  | unknownRequest (link : Link) (code : BitVec 8)
  /-- a received frame is discarded (R193) -/
  | frameDiscard (link : Link)
  /-- the gap after the last character passes 50 ms (R193) -/
  | linkGapTimeout (link : Link)
  /-- the last character of a reply has been sent (R195) -/
  | replySent (link : Link)
  /-- a break has lasted 100 ms (R199) -/
  | linkReset (link : Link)
  -- lane events
  /-- a card is swiped at a lane (R58) -/
  | cardRead (lane : LaneId) (card : Card)
  /-- the 3 s refusal display ends (R58) -/
  | cardRefusalExpiry (lane : LaneId)
  /-- a key is pressed (R59, R60) -/
  | keyPress (lane : LaneId) (key : Key)
  /-- the 60 s key timer expires (R60) -/
  | keyTimerExpiry (lane : LaneId)
  /-- a filtered input takes a value (R55) -/
  | laneInputChange (lane : LaneId) (input : LaneInput) (value : Bool)
  /-- drawer-locked did not confirm within 500 ms of a lock pulse's end (R57, R61, R67) -/
  | lockConfirmTimeout (lane : LaneId)
  /-- the 30 s load timer expires (R61) -/
  | loadTimeout (lane : LaneId)
  /-- the drawer's tag reader returns a serial, or `none` for unreadable (R62, R53) -/
  | tagRead (lane : LaneId) (result : Option Tag)
  /-- the scale delivers a sample (R63) -/
  | scaleSample (lane : LaneId) (sample : Reading)
  /-- the 3 s weigh timer expires (R63) -/
  | weighTimeout (lane : LaneId)
  /-- the 0.8 s positioning timer expires; whether the diverter reports itself at the bin (R65) -/
  | positioningExpiry (lane : LaneId) (atBin : Bool)
  /-- an actuator's pulse timer expires (R56) -/
  | pulseExpiry (lane : LaneId) (output : Actuator)
  /-- the target bin's filtered entry sensor becomes set (R66) -/
  | entrySensorTrip (lane : LaneId)
  /-- the 400 ms arrival read completes with the tags seen; whether the receipt printer reports a fault (R66) -/
  | arrivalReadComplete (lane : LaneId) (seen : List Tag) (printerFault : Bool)
  /-- 4 s have passed since the tip began (R12, R66) -/
  | routeTimeout (lane : LaneId)
  /-- 60 s in RETURN_WAIT (R68) -/
  | returnWaitExpiry (lane : LaneId)
  -- bin and rack events
  /-- a bin's filtered door switch takes a value (R125) -/
  | doorChange (bin : BinIdx) (door : Door)
  /-- the latch sensor shows a release (R131) -/
  | latchReleased (bin : BinIdx)
  /-- 1 s without a release (R131) -/
  | releaseTimeout (bin : BinIdx)
  /-- the latch sensor shows an engagement (R133) -/
  | latchEngaged (bin : BinIdx)
  /-- 1 s without an engagement (R133) -/
  | engageTimeout (bin : BinIdx)
  /-- the 400 ms pocket read of a relatch completes with the tags seen (R137) -/
  | pocketReadComplete (bin : BinIdx) (seen : List Tag)
  /-- the hold timer of the selection expires (R129) -/
  | holdExpiry
  /-- the sweep's step timer expires (R145) -/
  | stepTimerExpiry
  /-- a rack read completes with the tags seen in its sixteen pockets, by slot (R148) -/
  | rackReadComplete (seen : List (List Tag))
  /-- a rack's age passes the overdue threshold (R152) -/
  | rackOverdue (rack : RackIdx)
  /-- the Custody Clock passes into a new minute (R111) -/
  | newMinute
  /-- the delay end of a raise is reached (R117) -/
  | raiseDelayExpiry
  /-- the confirm end of a raise is reached (R119) -/
  | confirmLapse
  /-- 30 s since the last LIST or LIST NEXT (R173) -/
  | listIdleExpiry
  -- power
  /-- mains has been absent for 200 ms (R208) -/
  | mainsLoss
  /-- mains has been present for 200 ms (R208); the lines that a return from RETENTION takes afresh, as then found
  (R55, R143, R202) -/
  | mainsReturn (cabinet : CabinetLines) (links : RestartLines)
  /-- the battery has been below its holding level for 1 s (R208) -/
  | batteryLow
  /-- power-on or the reset line (R212): whether the battery held the retained storage, the two power conditions,
  and the field lines as found -/
  | coldStart (retentionHeld mains batteryLow : Bool) (lines : FieldLines)
  -- characters
  /-- a character arrives on a link's receive line, perhaps with a framing error (R192, R193) -/
  | characterReceived (link : Link) (character : Byte) (framingError : Bool)
  /-- a link's receive line enters a space that outlasts a character (`true`) or returns to mark (R199) -/
  | lineConditionChange (link : Link) (space : Bool)
  deriving DecidableEq, Repr

end Sys2Proof
end

