-- ==== Sys2Proof/Machine/Types.lean ====
section
/-!
DEFINITION. The parts the state is made of, block by block as the chapters give them, and the results that replies
carry. A duration or deadline is in milliseconds of the Custody Clock's counting (R205); a moment is a reading.
-/
namespace Sys2Proof.Machine

/-- A reading of the Custody Clock: day number 0 to 65,535 and second of the day 0 to 86,399 (R205). -/
structure Moment where
  day : Nat
  second : Nat
  deriving DecidableEq, Repr

/-! ### The Custody Register (R1 to R4) -/

/-- The nine states of a live record (R4), in the order of R2. -/
inductive RecState where
  | reserved | inFlight | held | missing | astray | listed | taken | counted | released
  deriving DecidableEq, Repr

/-- The decision written into a record (R2). -/
inductive Decision where
  | accept | hold
  deriving DecidableEq, Repr

/-- A declaration: notes N, silver-gold S and bronze B, in pence (R2). -/
structure Declaration where
  notes : Nat
  silver : Nat
  bronze : Nat
  deriving DecidableEq, Repr

/-- A sighting: the pass number and the time (R2, last seen). -/
structure Sighting where
  pass : BitVec 16
  time : Moment
  deriving DecidableEq, Repr

/-- The reservation part of a record (R2, R42): allocation class, reservation serial and saved cursor. -/
structure Reservation where
  cls : BagClass
  serial : BitVec 16
  saved : BinIdx
  deriving DecidableEq, Repr

/-- The flags of a record (R17). -/
structure Flags where
  misrouteSuspect : Bool
  outOfManifestScan : Bool
  restarted : Bool
  deriving DecidableEq, Repr

/-- A live custody record (R2, R3). -/
structure BagRecord where
  state : RecState
  receipt : Option Nat
  lane : LaneId
  depositor : DepIdx
  tag : Tag
  decl : Declaration
  mass : Nat
  lo : Nat
  hi : Nat
  decision : Decision
  holdClass : BagClass
  bin : Option BinIdx
  seenAt : Option BinIdx
  dropTime : Option Moment
  lastSeen : Option Sighting
  reservation : Option Reservation
  result : Option Nat
  flags : Flags
  deriving DecidableEq, Repr

/-- The Custody Register: its live records, at most 512 (a VACANT entry holds nothing and has no name, R1), and the
next receipt number (R10). -/
structure Register where
  records : List BagRecord
  nextReceipt : Nat
  deriving DecidableEq, Repr

/-! ### The Bin Map (R28, R37, R39) and the latches (R124) -/

/-- The class field of a bin (R31). -/
inductive BinClass where
  | normal | inspect | outOfService
  deriving DecidableEq, Repr

/-- The latch state of a bin (R35). -/
inductive LatchState where
  | latched | unlatched | unsecured | fault
  deriving DecidableEq, Repr

/-- The latch operation of a bin with the count at which it began (R124). `idle` is the operation NONE.
An engage also keeps whether a RELATCH BIN began it, which R133 asks when the door stops it. -/
inductive LatchOp where
  | idle
  | releasing (since : Nat)
  | engaging (since : Nat) (byRelatch : Bool)
  | waitingForDoor (since : Nat)
  deriving DecidableEq, Repr

/-- The outcome of a bin check (R36). -/
inductive CheckOutcome where
  | clean
  | found (missing strays : Nat)
  deriving DecidableEq, Repr

/-- A bin's last check (R36). -/
structure LastCheck where
  outcome : CheckOutcome
  pass : BitVec 16
  time : Moment
  deriving DecidableEq, Repr

/-- A bin record (R28), with what the Rack Bus Controller holds for the bin (R124) and the ends of the pocket reads
in progress at it (R137). Contents name records by their tag serials, which are theirs alone (R1). -/
structure Bin where
  cls : BinClass
  latch : LatchState
  door : Door
  contents : List Tag
  massSum : Nat
  lastCheck : Option LastCheck
  op : LatchOp
  doorFilter : Door × Door
  pocketReads : List Nat
  deriving DecidableEq, Repr

/-- The class cursors (R37) and the serial counters (R39). -/
structure Allocator where
  normalCursor : BinIdx
  inspectCursor : BinIdx
  normalSerial : BitVec 16
  inspectSerial : BitVec 16
  deriving DecidableEq, Repr

/-! ### The Depositor Table (R89) -/

inductive DepositorState where
  | active | suspended
  deriving DecidableEq, Repr

/-- A valid-level set: a subset of SEALED, COURIER and INSPECT (R89). -/
structure ValidLevels where
  sealed : Bool
  courier : Bool
  inspect : Bool
  deriving DecidableEq, Repr

/-- A non-VACANT depositor entry (R89). -/
structure Depositor where
  state : DepositorState
  card : Card
  levels : ValidLevels
  perBag : Nat
  dropLimit : Nat
  windowStart : Option Moment
  windowCount : Nat
  trust : Nat
  liveCount : Nat
  deriving DecidableEq, Repr

/-! ### The Drop Lanes (R50 to R72) -/

/-- The fourteen states of a lane (R50). -/
inductive LaneState where
  | closed | idle | card | declare | load | weigh | check | tipWait | tip | route | ret | returnWait | jammed
  | service
  deriving DecidableEq, Repr

/-- The close-reason set (R51). -/
structure CloseSet where
  level : Bool
  power : Bool
  clock : Bool
  branch : Bool
  forced : Bool
  jammed : Bool
  diverter : Bool
  service : Bool
  deriving DecidableEq, Repr

/-- The return reasons (R67). -/
inductive ReturnReason where
  | heavy | empty | mismatch | tag | duplicate | unstable | card | wait | limit | closed | full | fault
  | interrupted | timeout
  deriving DecidableEq, Repr

/-- The card refusals (R58); WAIT carries its whole minutes. -/
inductive CardRefusal where
  | unknownCard | suspended | notNow | wait (minutes : Nat) | tooManyBags | safeFull
  deriving DecidableEq, Repr

/-- The stage of a declaration (R59): the amount being keyed, or all three kept. -/
inductive DeclStage where
  | notes | silver | bronze | complete
  deriving DecidableEq, Repr

/-- The decision a lane keeps (R50, R77). -/
inductive Verdict where
  | accept | hold | ret (reason : ReturnReason)
  deriving DecidableEq, Repr

/-- The session part (R50). The card number is absent in a restart re-check (R70). -/
structure Session where
  card : Option Card
  depositor : DepIdx
  stage : DeclStage
  notes : Option Nat
  silver : Option Nat
  bronze : Option Nat
  keyed : List (Fin 10)
  refused : Nat
  keyTimer : Option Nat
  tag : Option Tag
  capture : Option Reading
  verdict : Option Verdict
  record : Option Tag
  deriving DecidableEq, Repr

/-- The route part (R50, R66): the record in flight, the time the tip began with its count, the filtered entry
sensor, and the end of the arrival read in progress, if any. -/
structure Route where
  record : Tag
  tipTime : Moment
  tipCount : Nat
  sensor : Bool
  arrivalRead : Option Nat
  deriving DecidableEq, Repr

/-- An actuator output (R56): set or reset, the level its line is driven at (`true` is high), and the end of its
running pulse. -/
structure Output where
  on : Bool
  high : Bool
  pulseEnd : Option Nat
  deriving DecidableEq, Repr

/-- A lock pulse that awaits its confirmation (R57, R61, R67): the position wanted, and, once the pulse has ended,
the count by which drawer-locked must show it. -/
structure LockGoal where
  wantLocked : Bool
  confirmBy : Option Nat
  deriving DecidableEq, Repr

/-- Why the drawer's tag reader has been commanded: in LOAD (R62) or at an opening check (R53). -/
inductive TagPurpose where
  | load | openingCheck
  deriving DecidableEq, Repr

/-- Why a declaration was refused (R60). -/
inductive DeclRefusal where
  | zeroTotal | overLimit
  deriving DecidableEq, Repr

/-- What the lane's display shows: the prompts, reasons and values of chapter 3. -/
inductive Display where
  | ready
  | laneClosed
  | refusal (r : CardRefusal)
  | enterAmount (stage : DeclStage)
  | amountRefused (stage : DeclStage)
  | declarationRefused (why : DeclRefusal)
  | loadBag
  | processing
  | takeBag
  | returning (r : ReturnReason)
  | receiptNumber (n : Nat) (shownTo : Nat)
  deriving DecidableEq, Repr

/-- A printed receipt (R66). -/
structure Receipt where
  number : Nat
  dropTime : Moment
  lane : LaneId
  total : Nat
  deriving DecidableEq, Repr

/-- A Lane Sequencer (R50). -/
structure Lane where
  state : LaneState
  reasons : CloseSet
  session : Option Session
  route : Option Route
  returnReason : Option ReturnReason
  bagLeft : Bool
  phaseTimer : Option Nat
  inputs : LaneInputs
  lock : Output
  tip : Output
  ret : Output
  samples : List Reading
  lockGoal : Option LockGoal
  tagReader : Option TagPurpose
  display : Display
  printed : Option Receipt
  deriving DecidableEq, Repr

/-- The Diverter Arbiter (R71), and the bin the diverter was last commanded to (R65). -/
structure Diverter where
  holder : Option LaneId
  lastServed : LaneId
  waitingA : Bool
  waitingB : Bool
  target : Option BinIdx
  deriving DecidableEq, Repr

/-! ### The Acceptance Unit's answer (R77) -/

inductive Zone where
  | overLimit | underTare | inBand | lowMargin | highMargin | light | overweight
  deriving DecidableEq, Repr

structure AcceptanceAnswer where
  clampedLow : Nat
  clampedHigh : Nat
  lo : Nat
  hi : Nat
  lowerMargin : Int
  upperMargin : Int
  zone : Zone
  verdict : Verdict
  holdClass : Option BagClass
  deriving DecidableEq, Repr

/-! ### The Level Arbiter and the Time-Lock Table (R104, R110) -/

/-- The courier request: NONE or COURIER (R107). -/
inductive CourierRequest where
  | nothing | courier
  deriving DecidableEq, Repr

inductive RaisePhase where
  | raising | ready
  deriving DecidableEq, Repr

/-- The raise part (R104). The two ends are counts; as moments they are reported by R121. -/
structure Raise where
  phase : RaisePhase
  target : Level
  start : Moment
  startCount : Nat
  delayEnd : Nat
  confirmEnd : Option Nat
  deriving DecidableEq, Repr

/-- The Level Arbiter (R104). -/
structure LevelArbiter where
  branchRequest : Level
  courierRequest : CourierRequest
  ceiling : Level
  duress : Bool
  allowance : Level
  target : Level
  effective : Level
  raise : Option Raise
  deriving DecidableEq, Repr

/-- A time-lock window (R110): bit d of `days` is set when week day d (0 is MON) is in its days. -/
structure Window where
  days : BitVec 8
  startMinute : Nat
  endMinute : Nat
  level : Level
  deriving DecidableEq, Repr

/-! ### The Rack Bus Controller (R124) -/

/-- A party that may hold a selection. -/
inductive Party where
  | branch | courier
  deriving DecidableEq, Repr

inductive SelectionPhase where
  | active | releasing
  deriving DecidableEq, Repr

/-- A selection (R124). The hold end is a count; as a moment it is reported by R127 and R142. -/
structure Selection where
  owner : Party
  rack : RackIdx
  phase : SelectionPhase
  holdEnd : Option Nat
  deriving DecidableEq, Repr

/-- What holds the rack bus (R126a). -/
inductive Grant where
  | nothing | selection | read
  deriving DecidableEq, Repr

/-! ### The Sweep Unit (R144, R154) -/

inductive StepState where
  | timing | waiting | reading
  deriving DecidableEq, Repr

inductive Asker where
  | step | inventory | branch
  deriving DecidableEq, Repr

/-- The read part (R144). -/
structure ReadPart where
  rack : RackIdx
  asker : Asker
  start : Moment
  startCount : Nat
  deriving DecidableEq, Repr

/-- The Sweep Unit (R144). A rack age is in milliseconds; the step timer holds its expiry's count. -/
structure Sweep where
  pointer : RackIdx
  pass : BitVec 16
  ages : Table Nat 8
  overdue : Table Bool 8
  stepTimer : Option Nat
  step : StepState
  pendingStep : Bool
  read : Option ReadPart
  deriving DecidableEq, Repr

/-- A sighting of a stray (R154). -/
structure StraySighting where
  bin : BinIdx
  pass : BitVec 16
  time : Moment
  deriving DecidableEq, Repr

structure StrayEntry where
  tag : Tag
  first : StraySighting
  latest : StraySighting
  deriving DecidableEq, Repr

/-- The strays list, oldest first, and the INCOMPLETE flag (R154). -/
structure Strays where
  entries : List StrayEntry
  incomplete : Bool
  deriving DecidableEq, Repr

/-! ### The Manifest (R174) -/

inductive ManifestState where
  | empty | building | sealed | active | closed
  deriving DecidableEq, Repr

structure Manifest where
  state : ManifestState
  card : Option Card
  entries : List Nat
  released : Nat
  withdrawn : Nat
  returned : Nat
  start : Option Moment
  finish : Option Moment
  deriving DecidableEq, Repr

/-! ### Configuration, clock and power (R203, R205, R207) -/

/-- Field 18: `true` is active-high (R203). -/
structure ActiveLevels where
  aLock : Bool
  aTip : Bool
  aReturn : Bool
  bLock : Bool
  bTip : Bool
  bReturn : Bool
  deriving DecidableEq, Repr

/-- The Configuration Word (R203). -/
structure ConfigWord where
  verificationInterval : Nat
  rackHoldMax : Nat
  courierDelay : Nat
  openingDelay : Nat
  confirmWindow : Nat
  rateWindow : Nat
  countTolerance : Nat
  scaleTolerance : Nat
  margin : Nat
  tareMin : Nat
  tareMax : Nat
  silverLow : Nat
  silverHigh : Nat
  bronzeLow : Nat
  bronzeHigh : Nat
  binMassLimit : Nat
  inspectRacks : Nat
  burstLength : Nat
  listOrder : ListOrder
  weekOffset : Nat
  active : ActiveLevels
  deriving DecidableEq, Repr

/-- The Custody Clock (R205): its reading, the steps of 1 ms counted since the reading's last second, all steps
counted (by which timers measure), and the set mark. -/
structure Clock where
  day : Nat
  second : Nat
  milli : Nat
  count : Nat
  isSet : Bool
  deriving DecidableEq, Repr

/-- The phase on MAINS (R207): INVENTORY with the rack the pass is on and whether that rack's read has been taken,
or RUN. -/
inductive MainsPhase where
  | inventory (rack : RackIdx) (asked : Bool)
  | run
  deriving DecidableEq, Repr

/-- The power state (R207). -/
inductive PowerState where
  | mains (phase : MainsPhase)
  | battery
  | retention
  deriving DecidableEq, Repr

/-- The Power Supervisor (R207). -/
structure Power where
  state : PowerState
  mainsPresent : Bool
  batteryLow : Bool
  deriving DecidableEq, Repr

/-- The last-start cause (R191). -/
inductive LastStart where
  | retentionKept | retentionLost
  deriving DecidableEq, Repr

/-! ### Replies (R196) -/

/-- The reply statuses (R196). -/
inductive Status where
  | ok | busy | state | level | unknown | full | duplicate | range | notListed | unknownRequest
  deriving DecidableEq, Repr

inductive RaiseState where
  | nothing | raising | ready
  deriving DecidableEq, Repr

/-- The raise as READ LEVEL reports it (R121). -/
structure RaiseReport where
  phase : RaisePhase
  target : Level
  start : Moment
  finish : Moment
  minutesLeft : Nat
  branchMayConfirm : Bool
  courierMayConfirm : Bool
  deriving DecidableEq, Repr

/-- READ LEVEL (R121). -/
structure LevelReport where
  effective : Level
  target : Level
  ceiling : Level
  duress : Bool
  allowance : Level
  openSlots : List (Fin 8)
  branchRequest : Level
  courierRequest : CourierRequest
  loggedIn : Bool
  raise : Option RaiseReport
  deriving DecidableEq, Repr

/-- A selection as READ RACK reports it (R142). -/
structure SelectionReport where
  owner : Party
  rack : RackIdx
  phase : SelectionPhase
  holdEnd : Option Moment
  minutesLeft : Option Nat
  deriving DecidableEq, Repr

/-- One bin of READ RACK (R142). -/
structure RackBinReport where
  cls : BinClass
  latch : LatchState
  door : Door
  op : LatchOp
  permitted : Option Bool
  deriving DecidableEq, Repr

structure RackReport where
  grant : Grant
  selection : Option SelectionReport
  readRack : Option RackIdx
  bins : List RackBinReport
  deriving DecidableEq, Repr

/-- READ SWEEP (R157); the step interval and the overdue threshold are in milliseconds. -/
structure SweepReport where
  interval : Nat
  stepInterval : Nat
  threshold : Nat
  pointer : RackIdx
  pass : BitVec 16
  step : StepState
  pendingStep : Bool
  nextExpiry : Option Nat
  read : Option (RackIdx × Asker × Nat)
  ages : List Nat
  overdue : List Bool
  strays : Nat
  incomplete : Bool
  deriving DecidableEq, Repr

/-- LANE STATUS (R76). -/
structure LaneReport where
  state : LaneState
  reasons : CloseSet
  returnReason : Option ReturnReason
  bagLeft : Bool
  inputs : LaneInputs
  outputsOn : Bool × Bool × Bool
  activeLevels : Bool × Bool × Bool
  session : Option (DeclStage × Option Reading)
  inFlightReceipt : Option Nat
  reservedBin : Option BinIdx
  holder : Option LaneId
  lastServed : LaneId
  waitingA : Bool
  waitingB : Bool
  deriving DecidableEq, Repr

/-- READ RECORD (R166). -/
structure RecordReport where
  record : BagRecord
  total : Nat
  place : Option Nat
  deriving DecidableEq, Repr

/-- A record as a bin read names it: its receipt number, or, RESERVED, its lane; and its state (R47). -/
structure ContentReport where
  receipt : Option Nat
  lane : Option LaneId
  state : RecState
  deriving DecidableEq, Repr

/-- READ BIN (R47). -/
structure BinReport where
  index : BinIdx
  rackClass : BagClass
  cls : BinClass
  latch : LatchState
  door : Door
  contents : List ContentReport
  massSum : Nat
  overmass : Bool
  room : Nat
  lastCheck : Option LastCheck
  alloc : Allocator
  massLimit : Nat
  deriving DecidableEq, Repr

/-- A listing entry (R170). -/
structure ListEntry where
  receipt : Nat
  state : RecState
  bin : Option BinIdx
  mass : Nat
  lo : Nat
  hi : Nat
  decision : Decision
  holdClass : BagClass
  flags : Flags
  deriving DecidableEq, Repr

/-- What a TAKE BAG reports (R160). -/
structure TakenReport where
  receipt : Option Nat
  depositor : DepIdx
  total : Nat
  decl : Declaration
  mass : Nat
  decision : Decision
  holdClass : BagClass
  flags : Flags
  stateLeft : RecState
  binLeft : Option BinIdx
  deriving DecidableEq, Repr

/-- What a POST RESULT reports (R164). -/
structure PostedReport where
  total : Nat
  counted : Nat
  difference : Nat
  within : Bool
  depositor : DepIdx
  trustBefore : Nat
  trustAfter : Nat
  deriving DecidableEq, Repr

/-- One entry of READ MANIFEST (R181); the seen-at bin is reported on the branch link alone. -/
structure ManifestEntryReport where
  receipt : Nat
  tag : Tag
  bin : Option BinIdx
  latch : Option LatchState
  misrouteSuspect : Bool
  seenAt : Option BinIdx
  deriving DecidableEq, Repr

/-- The card of READ MANIFEST: its digits on the branch link, present or absent on the courier port (R181). -/
inductive CardReport where
  | digits (c : Option Card)
  | present (p : Bool)
  deriving DecidableEq, Repr

/-- READ MANIFEST (R181), in parts (R198). -/
structure ManifestReport where
  part : Nat
  parts : Nat
  state : ManifestState
  card : CardReport
  released : Nat
  withdrawn : Nat
  returned : Nat
  start : Option Moment
  finish : Option Moment
  count : Nat
  entries : List ManifestEntryReport
  deriving DecidableEq, Repr

/-- READ DEPOSITOR (R95). -/
structure DepositorReport where
  index : DepIdx
  entry : Depositor
  running : Bool
  minutesLeft : Option Nat
  deriving DecidableEq, Repr

/-- READ POWER (R208): the phase and rack are those of an INVENTORY pass in progress. -/
structure PowerReport where
  state : PowerState
  batteryLow : Bool
  lastStart : LastStart
  deriving DecidableEq, Repr

/-- What a reply carries after OK, as the owning rules list it. -/
inductive Result where
  | nothing
  | notices (set : BitVec 8) (cause : Option LastStart)
  | level (r : LevelReport)
  | rack (r : RackReport)
  | sweep (r : SweepReport)
  | windows (slots : List (Option Window)) (weekDay minute : Nat) (allowance : Level)
  | config (c : ConfigWord)
  | clock (reading : Moment) (isSet : Bool) (weekDay minute weekOffset : Nat)
  | power (r : PowerReport)
  | laneStatus (r : LaneReport)
  | reasons (r : CloseSet)
  | inputs (i : LaneInputs)
  | trial (a : AcceptanceAnswer)
  | requested (branchRequest target effective : Level) (raise : RaiseState)
  | confirmed (effective : Level)
  | ceiling (ceiling target effective : Level)
  | selected (rack : RackIdx) (holdEnd : Moment)
  | strays (part parts count : Nat) (incomplete : Bool) (entries : List StrayEntry)
  | straysCleared (removed left : Nat)
  | record (r : RecordReport) (live : Nat)
  | bin (r : BinReport)
  | reservation (part parts : Nat) (lane : LaneId) (r : Option (RecordReport × Bool)) (live : Nat)
  | burst (entries : List ListEntry) (more : Bool) (next : Option Nat) (live : Nat)
  | taken (r : TakenReport)
  | putBack (receipt : Option Nat) (bin : BinIdx) (room massSum : Nat) (overmass : Bool)
  | posted (r : PostedReport)
  | retired (live depositorLive : Nat)
  | entries (n : Nat)
  | counts (released withdrawn returned : Nat)
  | manifest (r : ManifestReport)
  | loggedIn (entries : Nat) (effective : Level) (raise : RaiseState)
  | scanned (receipt : Option Nat) (bin : Option BinIdx) (left released : Nat)
  | loggedOut (released withdrawn returned : Nat) (effective : Level)
  | enrolled (index : DepIdx)
  | depositor (r : DepositorReport)
  | configSet (defaulted : List Nat)
  | clockSet (reading : Moment)
  deriving DecidableEq, Repr

/-- An answer of an owning block: OK with a result, or a refusal with its status (R196). -/
inductive Answer where
  | ok (r : Result)
  | refuse (why : Status)
  deriving DecidableEq, Repr

/-- A reply (R196): the request's code, and the answer. -/
structure Reply where
  code : BitVec 8
  answer : Answer
  deriving DecidableEq, Repr

/-! ### What the layout of a result leaves open (R196, R197; log entry 4) -/

/-- The kinds of a latch operation, without their counts (R124). -/
inductive LatchOpName where
  | nothing | releasing | engaging | waitingForDoor
  deriving DecidableEq, Repr

/-- The decisions as the Acceptance Unit names them, without the reason (R77). -/
inductive DecisionName where
  | accept | hold | ret
  deriving DecidableEq, Repr

/-- The power states, without the phase (R207). -/
inductive PowerName where
  | mains | battery | retention
  deriving DecidableEq, Repr

/-- The phases on MAINS, without the rack (R207). -/
inductive PhaseName where
  | inventory | run
  deriving DecidableEq, Repr

/-- The marks and conditions that a result reports as holding or not. -/
inductive Condition where
  | bagLeft | duress | loggedIn | permitted | pendingStep | overdue | incomplete | clockSet | batteryLow | powerClosed
  | more | within | misrouteSuspect | running
  deriving DecidableEq, Repr

/-- A value of a kind for which R197 has no row and whose owning rule names its values without numbering them. It is
carried in one byte, since it has fewer than 256 values. -/
inductive Name where
  | condition (c : Condition) (holds : Bool)
  | laneState (x : LaneState)
  | returnReason (x : ReturnReason)
  | stage (x : DeclStage)
  | zone (x : Zone)
  | decision (x : DecisionName)
  | bagClass (x : BagClass)
  | binClass (x : BinClass)
  | latch (x : Option LatchState)
  | door (x : Door)
  | latchOp (x : LatchOpName)
  | grant (x : Grant)
  | party (x : Party)
  | selectionPhase (x : SelectionPhase)
  | raise (x : RaiseState)
  | step (x : StepState)
  | asker (x : Asker)
  | recState (x : RecState)
  | manifestState (x : ManifestState)
  | depositorState (x : DepositorState)
  | listOrder (x : ListOrder)
  | power (x : PowerName)
  | phase (x : PhaseName)
  | lastStart (x : LastStart)
  deriving DecidableEq, Repr

/-- The items of a result that may be absent. -/
inductive OptionalItem where
  | returnReason | session | capture | inFlightReceipt | holder | raise | selection | holdEnd | minutesLeft | readRack
  | permitted | stepExpiry | read | window | phase | rack | decisionReason | holdClass | receipt | lane | dropTime
  | lastSeen | reservation | result | place | reserved | overmass | lastCheck | findings | card
  | collectionStart | collectionEnd | windowStart
  deriving DecidableEq, Repr

/-- The lists of varying length whose number of items no rule reports beside them. -/
inductive OpenList where
  | slots | contents | burst
  deriving DecidableEq, Repr

/-- The items whose layout or unit no rule gives. -/
inductive Unlaid where
  | inputs (i : LaneInputs)
  | outputs (lock tip ret : Bool)
  | levels (lock tip ret : Bool)
  | waiting (a b : Bool)
  | confirmers (branch courier : Bool)
  | stepInterval (ms : Nat)
  | activeLevels (x : ActiveLevels)
  deriving DecidableEq, Repr

/-! ### The Link Interface (R191) -/

inductive AssemblyPhase where
  | hunt | length | code | payload | check
  deriving DecidableEq, Repr

/-- The receive assembly (R193): its phase, the bytes of the frame taken so far (length, code, payload, first check
byte), and the count at which the last character ended; in HUNT after an event in which none ended, see log entry 61. -/
structure Assembly where
  phase : AssemblyPhase
  bytes : List Byte
  lastEnd : Nat
  deriving DecidableEq, Repr

/-- The exchange (R195); ANSWERING keeps the reply being sent. -/
inductive Exchange where
  | idle
  | answering (reply : Reply)
  deriving DecidableEq, Repr

/-- The line condition (R199): SPACE keeps the count at which it began and whether its reset has been taken. -/
inductive LineCondition where
  | mark
  | space (since : Nat) (resetTaken : Bool)
  deriving DecidableEq, Repr

/-- An OPEN listing cursor (R168); the idle expiry is a count. -/
structure Cursor where
  filter : ListFilter
  order : ListOrder
  burst : Nat
  start : Nat
  next : Nat
  idleEnd : Nat
  deriving DecidableEq, Repr

/-- The names of the notices (R200). -/
inductive Notice where
  | laneJammed | bagLeft | sweepDiscrepancy | safeFull | heldDeposit | courierScan | restart | raiseReady
  | laneForced | binUnsecured | holdExpired | rackOverdue | power | levelChanged
  deriving DecidableEq, Repr

/-- What the Link Interface holds for one link (R191). The notice set is held as READ NOTICES carries it, each
notice at its position; the attention line is asserted exactly while it is not empty (R201). -/
structure LinkState where
  assembly : Assembly
  exchange : Exchange
  line : LineCondition
  cursor : Option Cursor
  notices : BitVec 8
  deriving DecidableEq, Repr

end Sys2Proof.Machine
end

