-- ==== Sys2Proof/Machine/Defaults.lean ====
section
/-!
DEFINITION. The values the blocks take when the retained storage is initialised, and their volatile values after a
cold start, each from the rule named.
-/
namespace Sys2Proof.Machine

/-- All outputs active-high: the default of field 18 (R203). -/
def defaultActiveLevels : ActiveLevels :=
  { aLock := true, aTip := true, aReturn := true, bLock := true, bTip := true, bReturn := true }

/-- The defaults of the eighteen fields (R203). -/
def defaultConfig : ConfigWord :=
  { verificationInterval := 30, rackHoldMax := 10, courierDelay := 0, openingDelay := 15, confirmWindow := 5,
    rateWindow := 60, countTolerance := 100, scaleTolerance := 20, margin := 50, tareMin := 350, tareMax := 500,
    silverLow := 60, silverHigh := 650, bronzeLow := 3560, bronzeHigh := 3560, binMassLimit := 150000,
    inspectRacks := 1, burstLength := 8, listOrder := .ascending, weekOffset := 0, active := defaultActiveLevels }

/-- The register after a cold start with invalid retention (R26). -/
def emptyRegister : Register := { records := [], nextReceipt := 1 }

/-- The cursors and serial counters after a cold start with invalid retention (R37, R39, R49): bins 0/00 and
7/00. -/
def freshAllocator : Allocator :=
  { normalCursor := 0, inspectCursor := 112, normalSerial := 0, inspectSerial := 0 }

/-- The manifest after a cold start with invalid retention (R190). -/
def emptyManifest : Manifest :=
  { state := .empty, card := none, entries := [], released := 0, withdrawn := 0, returned := 0, start := none,
    finish := none }

/-- The clock after a cold start with invalid retention (R205). -/
def unsetClock : Clock := { day := 0, second := 0, milli := 0, count := 0, isSet := false }

/-- The Level Arbiter after a cold start, with the duress latch given (R123). -/
def sealedArbiter (duress : Bool) : LevelArbiter :=
  { branchRequest := .sealed, courierRequest := .nothing, ceiling := .sealed, duress := duress, allowance := .sealed,
    target := .sealed, effective := .sealed, raise := none }

/-- The Diverter Arbiter after every cold start (R71). -/
def idleDiverter : Diverter :=
  { holder := none, lastServed := .b, waitingA := false, waitingB := false, target := none }

/-- The strays list, empty (R154). -/
def noStrays : Strays := { entries := [], incomplete := false }

/-- The Sweep Unit after a cold start, with the retained pointer and pass number (R144). -/
def stoppedSweep (pointer : RackIdx) (pass : BitVec 16) : Sweep :=
  { pointer := pointer, pass := pass, ages := Table.const 8 0, overdue := Table.const 8 false, stepTimer := none,
    step := .timing, pendingStep := false, read := none }

/-- An empty close-reason set (R51). -/
def noReasons : CloseSet :=
  { level := false, power := false, clock := false, branch := false, forced := false, jammed := false,
    diverter := false, service := false }

/-- A reset output, driven at the reset level of its active level (R54, R56). -/
def outputAtReset (activeHigh : Bool) : Output := { on := false, high := !activeHigh, pulseEnd := none }

/-- A link after a start (R202): the line condition taken from the receive line, at the count `now`, at which the model
also has the last character end (DESIGN CHOICE, log entry 61). -/
def startedLink (now : Nat) (space : Bool) : LinkState :=
  { assembly := { phase := .hunt, bytes := [], lastEnd := now }, exchange := .idle,
    line := if space then .space now false else .mark, cursor := none, notices := 0 }

/-- A drawer shut, locked and empty: the inputs with which the reset state finds each lane (DESIGN CHOICE, log
entry 1). -/
def shutDrawer : LaneInputs :=
  { drawerClosed := true, drawerLocked := true, bagPresent := false, drawerForced := false }

/-- A lane after a cold start that finds the clock not set (R54). -/
def coldLane (reasons : CloseSet) (state : LaneState) (inputs : LaneInputs) (lock tip ret : Bool) : Lane :=
  { state := state, reasons := reasons, session := none, route := none, returnReason := none, bagLeft := false,
    phaseTimer := none, inputs := inputs, lock := outputAtReset lock, tip := outputAtReset tip,
    ret := outputAtReset ret, samples := [], lockGoal := none, tagReader := none, display := .laneClosed,
    printed := none }

/-- A bin in a start with invalid retention whose pocket door is CLOSED: its class, empty contents, and the engage
that the start commands (R49). Its latch state until the engage ends is UNSECURED (DEDUCED, log entry 2). -/
def coldBin (cls : BinClass) (now : Nat) : Bin :=
  { cls := cls, latch := .unsecured, door := .closed, contents := [], massSum := 0, lastCheck := none,
    op := .engaging now false, doorFilter := (.closed, .closed), pocketReads := [] }

end Sys2Proof.Machine
end

