-- ==== Sys2Proof/Machine/State.lean ====
section
/-!
DEFINITION. The state of the controller, the reasons a step can stop, and the state after reset.
-/
namespace Sys2Proof.Machine

/-- Everything the manual gives the part to hold, block by block, and the queue of waiting commands. -/
structure State where
  /-- the Custody Clock (R205) -/
  clock : Clock
  /-- the Power Supervisor (R207) -/
  power : Power
  /-- the retention marker (R212) -/
  marker : Bool
  /-- the Configuration Word (R203) -/
  config : ConfigWord
  /-- the Custody Register (R1, R10) -/
  register : Register
  /-- the bin records of the Bin Map (R28) with their latch operations (R124), by bin index -/
  bins : Table Bin 128
  /-- the class cursors and serial counters (R37, R39) -/
  alloc : Allocator
  /-- the Depositor Table: a VACANT entry is `none` (R89) -/
  depositors : Table (Option Depositor) 256
  /-- Lane Sequencer A (R50) -/
  laneA : Lane
  /-- Lane Sequencer B (R50) -/
  laneB : Lane
  /-- the Diverter Arbiter (R71) -/
  diverter : Diverter
  /-- the Level Arbiter (R104) -/
  levels : LevelArbiter
  /-- the Time-Lock Table: an EMPTY slot is `none` (R110) -/
  windows : Table (Option Window) 8
  /-- the selection in force (R124) -/
  selection : Option Selection
  /-- the Sweep Unit (R144) -/
  sweep : Sweep
  /-- the strays list and INCOMPLETE (R154) -/
  strays : Strays
  /-- the Manifest (R174) -/
  manifest : Manifest
  /-- the branch link (R191) -/
  branch : LinkState
  /-- the security link (R191) -/
  security : LinkState
  /-- the courier port (R191) -/
  courier : LinkState
  /-- the last-start cause (R191) -/
  lastStart : LastStart
  /-- the model's own: the commands waiting, first in first out -/
  pending : List Instr
  deriving DecidableEq, Repr

/-- Why a step stops. -/
inductive Fault where
  /-- raised by a door change that the table of R125 marks 'not possible', or for a latch state and operation the
  table has no row for: the manual says such an event cannot arise and gives it no effect; safe -/
  | impossibleDoorEvent
  deriving DecidableEq, Repr

/-- Why a step is refused. -/
inductive Refusal where
  /-- raised by an arm of exec for a command that has no meaning yet; safe -/
  | notModelled (mnemonic : String)
  deriving DecidableEq, Repr

/-- The class of the rack a bin stands in under the default configuration (R27, R49). -/
def State.resetClass (i : BinIdx) : BinClass := if i.val < 112 then .normal else .inspect

/-- The close-reason set after a cold start with invalid retention: POWER and CLOCK (R54). -/
def State.resetReasons : CloseSet := { noReasons with power := true, clock := true }

/-- The part right after a cold start with invalid retention (R212), mains present: R26, R49, R54, R71, R103, R123,
R124, R144, R190, R202, R203, R205, R207, R210. The field lines it finds are a DESIGN CHOICE (log entry 1): every
pocket door CLOSED, both drawers shut, locked and empty, every receive line at mark. -/
def State.reset : State :=
  { clock := unsetClock
    power := { state := .mains (.inventory 0 true), mainsPresent := true, batteryLow := false }
    marker := true
    config := defaultConfig
    register := emptyRegister
    bins := Table.ofFn (fun i => coldBin (State.resetClass i) 0)
    alloc := freshAllocator
    depositors := Table.const 256 none
    laneA := coldLane State.resetReasons .closed shutDrawer true true true
    laneB := coldLane State.resetReasons .closed shutDrawer true true true
    diverter := idleDiverter
    levels := sealedArbiter false
    windows := Table.const 8 none
    selection := none
    sweep := { stoppedSweep 0 0 with
      read := some { rack := 0, asker := .inventory, start := { day := 0, second := 0 }, startCount := 0 } }
    strays := noStrays
    manifest := emptyManifest
    branch := { startedLink 0 false with notices := 0x40 }
    security := { startedLink 0 false with notices := 0x40 }
    courier := startedLink 0 false
    lastStart := .retentionLost
    pending := [] }

end Sys2Proof.Machine
end

