-- ==== Sys2Proof/Machine/Ops.lean ====
section
/-!
DEFINITION. The named operations over the state that every block uses: time, links and notices, bins, records,
depositor entries and lanes, each field reached through one accessor; and the fields of R197 as values.
-/
namespace Sys2Proof.Machine

/-- What a command answers. -/
abbrev Out := Host.Outcome State Fault Refusal

/-! ### Time (R205) -/

/-- The steps of 1 ms counted so far: timers are measured by it. -/
def State.now (s : State) : Nat := s.clock.count

/-- The present moment. -/
def State.reading (s : State) : Moment := { day := s.clock.day, second := s.clock.second }

/-- A timer that has run out at the present count. -/
def due (timer : Option Nat) (now : Nat) : Bool :=
  match timer with
  | some t => t ≤ now
  | none => false

/-- The moment that the clock will read at a coming count (R205): the reading moved on by the steps left. -/
def momentAt (c : Clock) (count : Nat) : Moment :=
  let seconds := c.second + ((count - c.count) + c.milli) / 1000
  { day := (c.day + seconds / 86400) % 65536, second := seconds % 86400 }

/-- Whole minutes from `now` to a coming count, rounded up. -/
def minutesTo (now count : Nat) : Nat := (count - now + 59999) / 60000

/-- Whole seconds from `now` to a coming count, rounded up. -/
def secondsTo (now count : Nat) : Nat := (count - now + 999) / 1000

/-- A moment as seconds from day 0, second 0. -/
def Moment.seconds (m : Moment) : Nat := m.day * 86400 + m.second

/-- The present week day, 0 for MON (R111). -/
def State.weekDay (s : State) : Nat := (s.clock.day + s.config.weekOffset) % 7

/-- The present minute of the day (R111). -/
def State.minuteOfDay (s : State) : Nat := s.clock.second / 60

/-! ### Fields of requests (R197) -/

/-- `n` decimal digits packed two to a byte; none when a digit is not decimal. -/
def unpackDigits : Nat → Nat → Option Nat
  | 0, _ => some 0
  | n + 1, packed =>
    match unpackDigits n (packed / 16) with
    | none => none
    | some high => if packed % 16 < 10 then some (high * 10 + packed % 16) else none

/-- The packed form of a number's `n` lowest decimal digits. -/
def packDigits : Nat → Nat → Nat
  | 0, _ => 0
  | n + 1, value => packDigits n (value / 10) * 16 + value % 10

/-- A tag serial field: ten decimal digits. -/
def tagOf (packed : BitVec 40) : Option Tag := unpackDigits 10 packed.toNat

/-- A card number field: twelve decimal digits. -/
def cardOf (packed : BitVec 48) : Option Card := unpackDigits 12 packed.toNat

/-- A receipt number field: 1 to 999,999 (R158). -/
def receiptOf (field : BitVec 24) : Option Nat :=
  if 1 ≤ field.toNat ∧ field.toNat ≤ 999999 then some field.toNat else none

/-- A bin byte: 0 to 127 is a bin index, any other value names no bin (R27, R197). -/
def binOf (field : BitVec 8) : Option BinIdx :=
  if h : field.toNat < 128 then some ⟨field.toNat, h⟩ else none

/-- A rack byte: 0 to 7 (R27). -/
def rackOfByte (field : BitVec 8) : Option RackIdx :=
  if h : field.toNat < 8 then some ⟨field.toNat, h⟩ else none

/-- A slot byte: 0 to 15 (R27). -/
def slotOf (field : BitVec 8) : Option (Fin 16) :=
  if h : field.toNat < 16 then some ⟨field.toNat, h⟩ else none

/-- A depositor index byte (R89). -/
def depOf (field : BitVec 8) : DepIdx := ⟨field.toNat, field.isLt⟩

/-- A level byte: 0 to 3; a value above names no level (R197). -/
def levelOf (field : BitVec 8) : Option Level :=
  match field.toNat with
  | 0 => some .sealed
  | 1 => some .courier
  | 2 => some .inspect
  | 3 => some .opened
  | _ => none

/-! ### Levels (00_scope.md, Levels) -/

/-- One level is at or below another. -/
def atMost (a b : Level) : Bool := a.rank ≤ b.rank

/-- The lesser of two levels. -/
def leastLevel (a b : Level) : Level := if a.rank ≤ b.rank then a else b

/-- The greater of two levels. -/
def mostLevel (a b : Level) : Level := if a.rank ≤ b.rank then b else a

/-! ### Power and links -/

/-- The power state is MAINS, in either phase. -/
def State.onMains (s : State) : Bool :=
  match s.power.state with
  | .mains _ => true
  | _ => false

/-- The INVENTORY pass is in progress (R210). -/
def State.inInventory (s : State) : Bool :=
  match s.power.state with
  | .mains (.inventory _ _) => true
  | _ => false

/-- The power state is RETENTION. -/
def State.inRetention (s : State) : Bool :=
  match s.power.state with
  | .retention => true
  | _ => false

/-- A link runs: the security link always, the other two outside RETENTION (R202). -/
def State.linkRuns (s : State) : Link → Bool
  | .security => true
  | _ => !s.inRetention

/-- What the Link Interface holds for a link. -/
def State.link (s : State) : Link → LinkState
  | .branch => s.branch
  | .security => s.security
  | .courier => s.courier

/-- Replace what the Link Interface holds for a link. -/
def State.setLink (s : State) (l : Link) (x : LinkState) : State :=
  match l with
  | .branch => { s with branch := x }
  | .security => { s with security := x }
  | .courier => { s with courier := x }

/-- The attention line of a link (R201): asserted while its notice set is not empty. -/
def LinkState.attention (x : LinkState) : Bool := x.notices != 0

/-- The position of a notice in a link's set, if that link has it (R200, Notice sources). -/
def noticePosition : Link → Notice → Option Nat
  | .branch, .laneJammed => some 0
  | .branch, .bagLeft => some 1
  | .branch, .sweepDiscrepancy => some 2
  | .branch, .safeFull => some 3
  | .branch, .heldDeposit => some 4
  | .branch, .courierScan => some 5
  | .branch, .restart => some 6
  | .branch, .raiseReady => some 7
  | .security, .laneForced => some 0
  | .security, .binUnsecured => some 1
  | .security, .holdExpired => some 2
  | .security, .rackOverdue => some 3
  | .security, .sweepDiscrepancy => some 4
  | .security, .power => some 5
  | .security, .restart => some 6
  | .security, .levelChanged => some 7
  | .courier, .raiseReady => some 0
  | .courier, .levelChanged => some 1
  | _, _ => none

/-- The bit of a notice in a link's set; no bit where the link does not have the notice. -/
def noticeBit (l : Link) (n : Notice) : BitVec 8 :=
  match noticePosition l n with
  | some p => BitVec.ofNat 8 (2 ^ p)
  | none => 0

/-- Raise a notice on a link (R200): it is made present; not raised on a link that is stopped. -/
def State.notify (s : State) (l : Link) (n : Notice) : State :=
  if s.linkRuns l then
    s.setLink l { s.link l with notices := (s.link l).notices ||| noticeBit l n }
  else s

/-! ### Bins (R27 to R31) -/

/-- A bin's record. -/
def State.bin (s : State) (i : BinIdx) : Bin := s.bins.get i

/-- Change one bin's record. -/
def State.modBin (s : State) (i : BinIdx) (f : Bin → Bin) : State :=
  { s with bins := s.bins.set i (f (s.bins.get i)) }

/-- The rack a bin stands in. -/
def rackOf (i : BinIdx) : RackIdx := ⟨i.val / 16, by have := i.isLt; omega⟩

/-- The bin of a rack and slot (R27). -/
def binAt (rack : RackIdx) (slot : Fin 16) : BinIdx :=
  ⟨rack.val * 16 + slot.val, by have := rack.isLt; have := slot.isLt; omega⟩

/-- The sixteen bins of a rack in slot order. -/
def rackBins (rack : RackIdx) : List BinIdx := (List.finRange 16).map (binAt rack)

/-- The lowest index of the INSPECT range for a number of INSPECT racks (R27). -/
def inspectStart (inspectRacks : Nat) : Nat := if inspectRacks = 2 then 96 else 112

/-- The class of the rack a bin stands in (R27). -/
def rackClass (inspectRacks : Nat) (i : BinIdx) : BagClass :=
  if i.val < inspectStart inspectRacks then .normal else .inspect

/-- A rack class as a bin's class (R31). -/
def binClassOf : BagClass → BinClass
  | .normal => .normal
  | .inspect => .inspect

/-- The bins of a class's range in ascending index (R27). -/
def classRange (inspectRacks : Nat) (c : BagClass) : List BinIdx :=
  (List.finRange 128).filter (fun i => rackClass inspectRacks i = c)

/-- The class cursor (R37). -/
def Allocator.cursor (a : Allocator) : BagClass → BinIdx
  | .normal => a.normalCursor
  | .inspect => a.inspectCursor

/-- Set a class cursor (R37). -/
def Allocator.setCursor (a : Allocator) (c : BagClass) (i : BinIdx) : Allocator :=
  match c with
  | .normal => { a with normalCursor := i }
  | .inspect => { a with inspectCursor := i }

/-- The class's serial counter (R39). -/
def Allocator.serial (a : Allocator) : BagClass → BitVec 16
  | .normal => a.normalSerial
  | .inspect => a.inspectSerial

/-- Advance a class's serial counter by one, from 65,535 to 0 (R39). -/
def Allocator.advance (a : Allocator) (c : BagClass) : Allocator :=
  match c with
  | .normal => { a with normalSerial := a.normalSerial + 1 }
  | .inspect => { a with inspectSerial := a.inspectSerial + 1 }

/-! ### Records (R1, R2) -/

/-- The live record that holds a tag serial. -/
def State.findTag (s : State) (t : Tag) : Option BagRecord :=
  s.register.records.find? (fun r => r.tag == t)

/-- The live record that holds a receipt number. -/
def State.findReceipt (s : State) (n : Nat) : Option BagRecord :=
  s.register.records.find? (fun r => r.receipt == some n)

/-- The lane's RESERVED record, if it has one (R4). -/
def State.reservedOf (s : State) (l : LaneId) : Option BagRecord :=
  s.register.records.find? (fun r => r.lane == l && r.state == .reserved)

/-- The lane has a RESERVED or IN_FLIGHT record (R74). -/
def State.laneHasRecord (s : State) (l : LaneId) : Bool :=
  s.register.records.any (fun r => r.lane == l && (r.state == .reserved || r.state == .inFlight))

/-- The register's live count (R1). -/
def State.live (s : State) : Nat := s.register.records.length

/-- Change the record that holds a tag serial. -/
def State.modRecord (s : State) (t : Tag) (f : BagRecord → BagRecord) : State :=
  { s with register := { s.register with
      records := s.register.records.map (fun r => if r.tag = t then f r else r) } }

/-- Free the record that holds a tag serial: its entry becomes VACANT. -/
def State.dropRecord (s : State) (t : Tag) : State :=
  { s with register := { s.register with records := s.register.records.filter (fun r => r.tag != t) } }

/-- The total of a declaration, in pence. -/
def Declaration.total (d : Declaration) : Nat := d.notes + d.silver + d.bronze

/-! ### Depositor entries (R89) -/

/-- A depositor entry; none when VACANT. -/
def State.dep (s : State) (i : DepIdx) : Option Depositor := s.depositors.get i

/-- Change a depositor entry; a VACANT entry stays VACANT. -/
def State.modDep (s : State) (i : DepIdx) (f : Depositor → Depositor) : State :=
  { s with depositors := s.depositors.set i ((s.depositors.get i).map f) }

/-- Replace a depositor entry. -/
def State.setDep (s : State) (i : DepIdx) (d : Option Depositor) : State :=
  { s with depositors := s.depositors.set i d }

/-- The non-VACANT entry that holds a card number (R89). -/
def State.findCard (s : State) (c : Card) : Option DepIdx :=
  (List.finRange 256).find? (fun i => (s.depositors.get i).any (fun d => d.card == c))

/-! ### Lanes (R50) -/

/-- A lane's sequencer. -/
def State.lane (s : State) : LaneId → Lane
  | .a => s.laneA
  | .b => s.laneB

/-- Replace a lane's sequencer. -/
def State.setLane (s : State) (l : LaneId) (x : Lane) : State :=
  match l with
  | .a => { s with laneA := x }
  | .b => { s with laneB := x }

/-- Change a lane's sequencer. -/
def State.modLane (s : State) (l : LaneId) (f : Lane → Lane) : State := s.setLane l (f (s.lane l))

/-! ### The rack bus (R124, R126a) -/

/-- The rack of the selection in force, whatever its phase. -/
def State.selectedRack (s : State) : Option RackIdx := s.selection.map (fun x => x.rack)

/-- The rack of a rack read in progress that is not under a selection (R124). -/
def State.readRack (s : State) : Option RackIdx :=
  match s.sweep.read with
  | some r => if r.asker = .branch then none else some r.rack
  | none => none

/-- What holds the rack bus (R126a). -/
def State.grant (s : State) : Grant :=
  if s.selection.isSome then .selection
  else if s.readRack.isSome then .read
  else .nothing

/-- The crew is logged in exactly while the manifest is ACTIVE (R107). -/
def State.loggedIn (s : State) : Bool := s.manifest.state == .active

/-! ### Order -/

/-- Insert in ascending order of a key. -/
def insertByKey {α : Type} (key : α → Nat) (a : α) : List α → List α
  | [] => [a]
  | b :: rest => if key a ≤ key b then a :: b :: rest else b :: insertByKey key a rest

/-- Sort in ascending order of a key. -/
def sortByKey {α : Type} (key : α → Nat) : List α → List α
  | [] => []
  | a :: rest => insertByKey key a (sortByKey key rest)

/-- A pocket read's set of tags in ascending order, each once (R137). -/
def tagSet (seen : List Tag) : List Tag := sortByKey id seen.dedup

end Sys2Proof.Machine
end

