-- ==== Sys2Proof/Machine/Acceptance.lean ====
section
/-!
DEFINITION. The Acceptance Unit: the band, the zone and the decision (chapter 4). It holds no state.
-/
namespace Sys2Proof.Machine

/-- Division rounded up. -/
def divUp (a b : Nat) : Nat := (a + b - 1) / b

/-- The largest mass and the greatest sum the unit keeps: 65,535 dg (R80). -/
def maxMass : Nat := 65535

/-- The low sum: Tmin plus the three low terms, each rounded down (R79, R80). -/
def lowSum (c : ConfigWord) (d : Declaration) : Nat :=
  c.tareMin + d.notes * 8 / 5000 + d.silver * c.silverLow / 100 + d.bronze * c.bronzeLow / 100

/-- The high sum: Tmax plus the three high terms, each rounded up (R79, R80). -/
def highSum (c : ConfigWord) (d : Declaration) : Nat :=
  c.tareMax + divUp (d.notes * 10) 500 + divUp (d.silver * c.silverHigh) 100 + divUp (d.bronze * c.bronzeHigh) 100

/-- A sum clamped at 65,535 dg (R80). -/
def clampMass (n : Nat) : Nat := min n maxMass

/-- The band's lower edge: the clamped low less tol, or 0 (R81). -/
def bandLo (c : ConfigWord) (d : Declaration) : Nat := clampMass (lowSum c d) - c.scaleTolerance

/-- The band's upper edge: the clamped high plus tol, or 65,535 (R81). -/
def bandHi (c : ConfigWord) (d : Declaration) : Nat := clampMass (clampMass (highSum c d) + c.scaleTolerance)

/-- The lower margin bound, signed (R82). -/
def lowerMargin (c : ConfigWord) (d : Declaration) : Int := (bandLo c d : Int) - (c.margin : Int)

/-- The upper margin bound, not limited (R82). -/
def upperMargin (c : ConfigWord) (d : Declaration) : Int := (bandHi c d : Int) + (c.margin : Int)

/-- The bag mass limit (R78). -/
def bagMassLimit : Nat := 60000

/-- The first zone of R83 whose test the capture meets. -/
def zoneOf (c : ConfigWord) (d : Declaration) (capture : Reading) : Zone :=
  match capture with
  | .overRange => .overLimit
  | .mass m =>
    if bagMassLimit < m then .overLimit
    else if m < c.tareMin then .underTare
    else if bandLo c d ≤ m ∧ m ≤ bandHi c d then .inBand
    else if lowerMargin c d ≤ (m : Int) ∧ m < bandLo c d then .lowMargin
    else if bandHi c d < m ∧ (m : Int) ≤ upperMargin c d then .highMargin
    else if (m : Int) < lowerMargin c d then .light
    else .overweight

/-- The decision table of R84. -/
def verdictOf (z : Zone) (trust : Nat) : Verdict :=
  match z with
  | .overLimit => .ret .heavy
  | .underTare => .ret .empty
  | .inBand => if trust = 0 then .hold else .accept
  | .lowMargin => if trust ≤ 1 then .hold else .accept
  | .highMargin => if trust ≤ 1 then .hold else .accept
  | .light => .hold
  | .overweight => if trust = 0 then .ret .mismatch else .hold

/-- The hold class a decision carries (R77, R84). -/
def Verdict.holdClass : Verdict → Option BagClass
  | .accept => some .normal
  | .hold => some .inspect
  | .ret _ => none

/-- One asking of the unit (R77): every item of its answer. -/
def acceptance (c : ConfigWord) (d : Declaration) (capture : Reading) (trust : Nat) : AcceptanceAnswer :=
  let z := zoneOf c d capture
  let v := verdictOf z trust
  { clampedLow := clampMass (lowSum c d), clampedHigh := clampMass (highSum c d), lo := bandLo c d, hi := bandHi c d,
    lowerMargin := lowerMargin c d, upperMargin := upperMargin c d, zone := z, verdict := v,
    holdClass := v.holdClass }

end Sys2Proof.Machine
end

