-- ==== Sys2Proof/Machine/Custody.lean ====
section
/-!
DEFINITION. The shared operations of the Custody Register and the Bin Map: places in bins, allocation,
reservation, tip, arrival and rollback, the manifest's upkeep, the strays list, and the bin check (chapters 1, 2,
7.7, 8.6 and 10.3).
-/
namespace Sys2Proof.Machine

/-! ### Places in bins (R29, R30) -/

/-- A record joins the end of a bin's contents and its mass joins the mass sum (R29, R30). -/
def State.joinBin (s : State) (i : BinIdx) (t : Tag) (mass : Nat) : State :=
  s.modBin i (fun b => { b with contents := b.contents ++ [t], massSum := b.massSum + mass })

/-- A record leaves a bin's contents, those after it closing up, and its mass leaves the mass sum (R29, R30). -/
def State.leaveBin (s : State) (i : BinIdx) (t : Tag) (mass : Nat) : State :=
  s.modBin i (fun b => { b with contents := b.contents.erase t, massSum := b.massSum - mass })

/-- A record leaves the bin it is in, if it has one. -/
def State.unplace (s : State) (r : BagRecord) : State :=
  match r.bin with
  | some i => s.leaveBin i r.tag r.mass
  | none => s

/-- A bin has room when its contents hold fewer than four records (R29). -/
def Bin.hasRoom (b : Bin) : Bool := b.contents.length < 4

/-- OVERMASS, worked out whenever a bin is read (R30). -/
def Bin.overmass (b : Bin) (limit : Nat) : Bool := limit < b.massSum

/-! ### Allocation (R40 to R42) -/

/-- A bin is eligible for a bag of the given mass in a class (R40). -/
def State.eligible (s : State) (c : BagClass) (mass : Nat) (i : BinIdx) : Bool :=
  (s.bin i).cls == binClassOf c && (s.bin i).latch == .latched && s.selectedRack != some (rackOf i) &&
    (s.bin i).hasRoom && ((s.bin i).massSum + mass ≤ s.config.binMassLimit)

/-- The order in which a scan examines a class's range: from the bin the cursor names up, then on from the lowest
(R41). -/
def State.scanOrder (s : State) (c : BagClass) : List BinIdx :=
  let range := classRange s.config.inspectRacks c
  range.filter (fun i => (s.alloc.cursor c).val ≤ i.val) ++ range.filter (fun i => i.val < (s.alloc.cursor c).val)

/-- The first eligible bin of a class's scan (R41). -/
def State.scan (s : State) (c : BagClass) (mass : Nat) : Option BinIdx :=
  (s.scanOrder c).find? (s.eligible c mass)

/-- The hold class is scanned first, then the other; the class that chose is the allocation class (R42). -/
def State.allocate (s : State) (hold : BagClass) (mass : Nat) : Option (BagClass × BinIdx) :=
  match s.scan hold mass with
  | some i => some (hold, i)
  | none =>
    match s.scan hold.other mass with
    | some i => some (hold.other, i)
    | none => none

/-! ### The strays list (R154, R155) -/

/-- The strays list with new entries; a list left empty clears INCOMPLETE, one with entries keeps it (R154). -/
def Strays.withEntries (x : Strays) (entries : List StrayEntry) : Strays :=
  { entries := entries, incomplete := x.incomplete && !entries.isEmpty }

/-- A stray handed to the list (R154): updated, appended, or refused with INCOMPLETE set. -/
def Strays.hand (x : Strays) (t : Tag) (seen : StraySighting) : Strays :=
  if x.entries.any (fun e => e.tag == t) then
    { x with entries := x.entries.map (fun e => if e.tag = t then { e with latest := seen } else e) }
  else if x.entries.length < 16 then
    { x with entries := x.entries ++ [{ tag := t, first := seen, latest := seen }] }
  else { x with incomplete := true }

/-- A reservation of a tag takes its entry off the strays list (R155). -/
def Strays.reserved (x : Strays) (t : Tag) : Strays :=
  if x.entries.any (fun e => e.tag == t) then x.withEntries (x.entries.filter (fun e => e.tag != t)) else x

/-! ### Reservation (R6) -/

/-- What a lane brings to a reservation (R6). -/
structure DropFacts where
  lane : LaneId
  depositor : DepIdx
  tag : Tag
  decl : Declaration
  mass : Nat
  lo : Nat
  hi : Nat
  decision : Decision
  holdClass : BagClass
  deriving DecidableEq, Repr

/-- No flag set (R17). -/
def noFlags : Flags := { misrouteSuspect := false, outOfManifestScan := false, restarted := false }

/-- The record that a reservation makes (R6). -/
def DropFacts.record (d : DropFacts) (i : BinIdx) (q : Reservation) : BagRecord :=
  { state := .reserved, receipt := none, lane := d.lane, depositor := d.depositor, tag := d.tag, decl := d.decl,
    mass := d.mass, lo := d.lo, hi := d.hi, decision := d.decision, holdClass := d.holdClass, bin := some i,
    seenAt := none, dropTime := none, lastSeen := none, reservation := some q, result := none, flags := noFlags }

/-- The effects of a reservation whose allocation chose bin `i` in class `c` (R6, R7, R42). -/
def State.reserveIn (s : State) (d : DropFacts) (c : BagClass) (i : BinIdx) : State :=
  let q : Reservation := { cls := c, serial := s.alloc.serial c, saved := s.alloc.cursor c }
  let made : State :=
    { s with
      register := { s.register with records := s.register.records ++ [d.record i q] }
      alloc := (s.alloc.setCursor c i).advance c
      strays := s.strays.reserved d.tag }
  let placed := (made.joinBin i d.tag d.mass).modDep d.depositor (fun e => { e with liveCount := e.liveCount + 1 })
  if placed.live = 512 then placed.notify .branch .safeFull else placed

/-- A reservation (R6): its tests in order, each with the answer that ends it; none failing, the record is made. -/
def State.reserve (s : State) (d : DropFacts) : Except ReturnReason State :=
  if s.levels.effective = .opened ∨ s.onMains = false ∨ s.clock.isSet = false then .error .closed
  else if 512 ≤ s.live then .error .full
  else if (s.findTag d.tag).isSome then .error .duplicate
  else
    match s.allocate d.holdClass d.mass with
    | none => .error .full
    | some (c, i) => .ok (s.reserveIn d c i)

/-! ### Tip, arrival, route timeout and rollback (R9 to R13) -/

/-- The receipt number after a number, with 1 after 999,999 (R10). -/
def nextNumber (n : Nat) : Nat := if 999999 ≤ n then 1 else n + 1

/-- The first number from `n` on that no live record holds, tried at most `tries` times (R10). -/
def State.freeNumber (s : State) : Nat → Nat → Nat
  | 0, n => n
  | tries + 1, n => if (s.findReceipt n).isSome then s.freeNumber tries (nextNumber n) else n

/-- The tip's effect on its record (R9, R10). -/
def State.tipRecord (s : State) (t : Tag) : State :=
  let n := s.freeNumber 512 s.register.nextReceipt
  let tipped := s.modRecord t (fun r =>
    { r with state := .inFlight, receipt := some n, dropTime := some s.reading })
  { tipped with register := { tipped.register with nextReceipt := nextNumber n } }

/-- The present sighting: the pass number and the time (R2). -/
def State.sighting (s : State) : Sighting := { pass := s.sweep.pass, time := s.reading }

/-- An arrival's effect on its record (R11). -/
def State.arriveRecord (s : State) (t : Tag) : State :=
  s.modRecord t (fun r => { r with state := .held, lastSeen := some s.sighting, reservation := none })

/-- An IN_FLIGHT record becomes ASTRAY (R12, R24, R25). -/
def State.loseRecord (s : State) (r : BagRecord) : State :=
  (s.unplace r).modRecord r.tag (fun x =>
    { x with state := .astray, bin := none, reservation := none,
             flags := { x.flags with misrouteSuspect := true } })

/-- Every IN_FLIGHT record becomes ASTRAY (R24, R25). -/
def State.loseInFlight (s : State) : State :=
  (s.register.records.filter (fun r => r.state = .inFlight)).foldl State.loseRecord s

/-- Of two serials in use at once, the first is the later (R39). -/
def serialHigher (a b : BitVec 16) : Bool := a != b && (a - b).toNat < 32768

/-- Another record of the class with a higher serial is RESERVED or IN_FLIGHT (R43, condition 2). -/
def State.laterReservation (s : State) (r : BagRecord) (q : Reservation) : Bool :=
  s.register.records.any (fun x =>
    x.tag != r.tag && (x.state == .reserved || x.state == .inFlight) &&
      x.reservation.any (fun p => p.cls == q.cls && serialHigher p.serial q.serial))

/-- The three conditions under which a rollback restores its class's cursor (R43). -/
def State.restoresCursor (s : State) (r : BagRecord) (q : Reservation) : Bool :=
  some (s.alloc.cursor q.cls) == r.bin && !s.laterReservation r q &&
    rackClass s.config.inspectRacks q.saved == q.cls

/-- The cursor test of a rollback (R43). -/
def State.restoreCursor (s : State) (r : BagRecord) : State :=
  match r.reservation with
  | some q => if s.restoresCursor r q then { s with alloc := s.alloc.setCursor q.cls q.saved } else s
  | none => s

/-- The depositor's live count goes down by one (R100). -/
def State.lowerLive (s : State) (i : DepIdx) : State :=
  s.modDep i (fun e => { e with liveCount := e.liveCount - 1 })

/-- Rollback of a RESERVED record (R13, R43). -/
def State.rollback (s : State) (r : BagRecord) : State :=
  (((s.restoreCursor r).unplace r).lowerLive r.depositor).dropRecord r.tag

/-! ### The manifest's upkeep (R178, R180) -/

/-- An entry leaves the list; a SEALED manifest left empty goes back to BUILDING (R177, R178). -/
def Manifest.dropEntry (m : Manifest) (receipt : Nat) : Manifest :=
  let left := m.entries.erase receipt
  { m with entries := left, state := if m.state = .sealed ∧ left = [] then .building else m.state }

/-- A withdrawal: the entry leaves and the withdrawn count goes up, held at 65,535 (R180). -/
def Manifest.withdraw (m : Manifest) (receipt : Nat) : Manifest :=
  { m.dropEntry receipt with withdrawn := min 65535 (m.withdrawn + 1) }

/-- The withdrawal of a record from the manifest (R180). -/
def State.withdraw (s : State) (r : BagRecord) : State :=
  match r.receipt with
  | some n => { s with manifest := s.manifest.withdraw n }
  | none => s

/-! ### The bin check (R137 to R141) -/

/-- The judgement of one record of the contents (R15). -/
def State.judge (s : State) (seen : List Tag) (t : Tag) : State :=
  match s.findTag t with
  | none => s
  | some r =>
    if r.state = .held ∨ r.state = .missing ∨ r.state = .listed then
      if t ∈ seen then
        s.modRecord t (fun x =>
          { x with lastSeen := some s.sighting, seenAt := none,
                   state := if x.state = .missing then .held else x.state })
      else if r.state = .held then s.modRecord t (fun x => { x with state := .missing })
      else if r.state = .listed then (s.withdraw r).modRecord t (fun x => { x with state := .missing })
      else s
    else s

/-- A record seen in a bin that is not its own, with room there, is relocated (R16). -/
def State.relocate (s : State) (i : BinIdx) (r : BagRecord) : State :=
  ((s.unplace r).joinBin i r.tag r.mass).modRecord r.tag (fun x =>
    { x with bin := some i, lastSeen := some s.sighting, seenAt := none,
             flags := { x.flags with misrouteSuspect := true },
             state := if x.state = .missing ∨ x.state = .astray then .held else x.state })

/-- A record seen in a bin that is not its own: relocated, or, without room, its seen-at bin is set (R16). -/
def State.foundIn (s : State) (i : BinIdx) (r : BagRecord) : State :=
  if (s.bin i).hasRoom then s.relocate i r
  else s.modRecord r.tag (fun x =>
    { x with seenAt := some i, flags := { x.flags with misrouteSuspect := true } })

/-- Step 2 for one tag: a MISSING or ASTRAY record not in the contents (R138). -/
def State.takeFound (i : BinIdx) (s : State) (t : Tag) : State :=
  match s.findTag t with
  | some r =>
    if (r.state = .missing ∨ r.state = .astray) ∧ t ∉ (s.bin i).contents then s.foundIn i r else s
  | none => s

/-- Step 3 for one tag: a HELD or LISTED record of another bin (R138). -/
def State.takeOther (i : BinIdx) (s : State) (t : Tag) : State :=
  match s.findTag t with
  | some r =>
    if (r.state = .held ∨ r.state = .listed) ∧ t ∉ (s.bin i).contents then s.foundIn i r else s
  | none => s

/-- Step 4 for one tag: a TAKEN, COUNTED or RELEASED record's seen-at bin is set; a tag of no live record is a stray
(R138, R140). -/
def State.takeRest (i : BinIdx) (s : State) (t : Tag) : State :=
  match s.findTag t with
  | some r =>
    if r.state = .taken ∨ r.state = .counted ∨ r.state = .released then
      s.modRecord t (fun x => { x with seenAt := some i })
    else s
  | none => { s with strays := s.strays.hand t { bin := i, pass := s.sweep.pass, time := s.reading } }

/-- The records of a bin's contents that are MISSING (R139). -/
def State.missingIn (s : State) (i : BinIdx) : Nat :=
  ((s.bin i).contents.filter (fun t => (s.findTag t).any (fun r => r.state == .missing))).length

/-- The seen tags of no live record, held at 255 (R140). -/
def State.strayCount (s : State) (tags : List Tag) : Nat :=
  min 255 (tags.filter (fun t => (s.findTag t).isNone)).length

/-- The four steps of a bin check (R138). -/
def State.checkSteps (s : State) (i : BinIdx) (tags : List Tag) : State :=
  let s1 := (s.bin i).contents.foldl (fun x t => x.judge tags t) s
  let s2 := tags.foldl (State.takeFound i) s1
  let s3 := tags.foldl (State.takeOther i) s2
  tags.foldl (State.takeRest i) s3

/-- The outcome of a check's two counts (R36, R141). -/
def checkOutcome (missing strays : Nat) : CheckOutcome :=
  if missing = 0 ∧ strays = 0 then .clean else .found missing strays

/-- A bin check: the four steps, then the bin's last check and, when it is not CLEAN, SWEEP DISCREPANCY on the branch
and security links (R138 to R141). -/
def State.binCheck (s : State) (i : BinIdx) (seen : List Tag) : State :=
  let tags := tagSet seen
  let t := s.checkSteps i tags
  let outcome := checkOutcome (t.missingIn i) (t.strayCount tags)
  let noted := t.modBin i (fun b =>
    { b with lastCheck := some { outcome := outcome, pass := t.sweep.pass, time := t.reading } })
  if outcome = .clean then noted
  else (noted.notify .branch .sweepDiscrepancy).notify .security .sweepDiscrepancy

end Sys2Proof.Machine
end

