-- ==== Sys2Proof/Machine/Timing.lean ====
section
/-!
DEFINITION. The durations the manual fixes or configures, in milliseconds of the Custody Clock's counting (R205).
-/
namespace Sys2Proof.Machine

/-- R56 -/
def lockPulseMs : Nat := 200
/-- R56 -/
def tipPulseMs : Nat := 600
/-- R56 -/
def returnPulseMs : Nat := 1500
/-- R57, R61, R67 -/
def lockConfirmMs : Nat := 500
/-- R58 -/
def refusalMs : Nat := 3000
/-- R59 -/
def keyTimerMs : Nat := 60000
/-- R61 -/
def loadMs : Nat := 30000
/-- R63 -/
def weighMs : Nat := 3000
/-- R65 -/
def positioningMs : Nat := 800
/-- R66 -/
def arrivalReadMs : Nat := 400
/-- R12, R66 -/
def routeMs : Nat := 4000
/-- R66: how long the display shows a receipt number the printer could not print -/
def receiptShownMs : Nat := 30000
/-- R68 -/
def returnWaitMs : Nat := 60000
/-- R131, R133 -/
def latchMs : Nat := 1000
/-- R137 -/
def pocketReadMs : Nat := 400
/-- R148 -/
def rackReadMs : Nat := 2000
/-- R168 -/
def listIdleMs : Nat := 30000
/-- R193 -/
def gapMs : Nat := 50
/-- R199 -/
def breakMs : Nat := 100

/-- The pulse of each actuator (R56). -/
def pulseMs : Actuator → Nat
  | .lock => lockPulseMs
  | .tip => tipPulseMs
  | .ret => returnPulseMs

/-- The rack hold maximum in force (R127). -/
def State.holdMs (s : State) : Nat := s.config.rackHoldMax * 60000

/-- The confirm window in force (R117). -/
def State.confirmMs (s : State) : Nat := s.config.confirmWindow * 60000

/-- The delay of a raise target (R115): the courier delay for COURIER, the opening delay for INSPECT and OPEN. SEALED
is no raise target; it would wait for nothing. -/
def State.raiseDelayMs (s : State) : Level → Nat
  | .sealed => 0
  | .courier => s.config.courierDelay * 60000
  | .inspect => s.config.openingDelay * 60000
  | .opened => s.config.openingDelay * 60000

/-- The step interval in force (R145): V × 60 ÷ 8 seconds on MAINS, four times that otherwise. R145 gives none for
RETENTION, where the timer is stopped; READ SWEEP reports the BATTERY one there (DESIGN CHOICE, log entry 47). -/
def State.stepMs (s : State) : Nat :=
  if s.onMains then s.config.verificationInterval * 7500 else s.config.verificationInterval * 30000

/-- The overdue threshold in force (R152): V on MAINS, 4 × V on BATTERY and in RETENTION. -/
def State.overdueMs (s : State) : Nat :=
  if s.onMains then s.config.verificationInterval * 60000 else s.config.verificationInterval * 240000

/-- The age at which a rack's age is held: 4,294,967,295 s (R151). -/
def ageCeilingMs : Nat := 4294967295000

end Sys2Proof.Machine
end

