-- ==== Sys2Proof/Machine/LaneOps.lean ====
section
/-!
DEFINITION. The shared operations of the Lane Sequencers and the Diverter Arbiter: outputs, the close-reason set and
the closings, the opening check, the return, the CHECK, the route, and the grant (chapter 3).
-/
namespace Sys2Proof.Machine

/-! ### Outputs (R56) -/

/-- The active level configured for an output (R203, field 18): `true` is high. -/
def ActiveLevels.level (a : ActiveLevels) : LaneId → Actuator → Bool
  | .a, .lock => a.aLock
  | .a, .tip => a.aTip
  | .a, .ret => a.aReturn
  | .b, .lock => a.bLock
  | .b, .tip => a.bTip
  | .b, .ret => a.bReturn

/-- One of a lane's outputs. -/
def Lane.output (x : Lane) : Actuator → Output
  | .lock => x.lock
  | .tip => x.tip
  | .ret => x.ret

/-- Replace one of a lane's outputs. -/
def Lane.setOutput (x : Lane) (o : Actuator) (v : Output) : Lane :=
  match o with
  | .lock => { x with lock := v }
  | .tip => { x with tip := v }
  | .ret => { x with ret := v }

/-- Set an output for a pulse: a transition, so that the line takes the level configured now (R56). Where an earlier
pulse of the output still runs (a bolt confirmed before its pulse ended, then a new lock pulse), the output stays set
and its pulse timer starts again (DESIGN CHOICE, log entry 49). -/
def State.startPulse (s : State) (l : LaneId) (o : Actuator) (ms : Nat) : State :=
  s.modLane l (fun x =>
    x.setOutput o { on := true, high := s.config.active.level l o, pulseEnd := some (s.now + ms) })

/-- Reset an output and stop its pulse: a transition (R56). -/
def State.resetOutput (s : State) (l : LaneId) (o : Actuator) : State :=
  s.modLane l (fun x => x.setOutput o (outputAtReset (s.config.active.level l o)))

/-- Reset each output of a lane, but the tip output of a route in progress (R52). -/
def State.resetOutputs (s : State) (l : LaneId) : State :=
  let t := (s.resetOutput l .lock).resetOutput l .ret
  if (s.lane l).route.isSome then t else t.resetOutput l .tip

/-! ### Reasons and rest (R50, R51, R57) -/

/-- The set is empty. -/
def CloseSet.isEmpty (c : CloseSet) : Bool := c == noReasons

/-- The state of a lane whose set is not empty (R50). -/
def closedState (c : CloseSet) : LaneState :=
  if c.service then .service else if c.jammed then .jammed else .closed

/-- The lane is closed: CLOSED, JAMMED or SERVICE (R50). -/
def Lane.isClosed (x : Lane) : Bool := x.state == .closed || x.state == .jammed || x.state == .service

/-- A lock pulse that is to bring the bolt to a position (R56, R57, R61, R67). -/
def State.beginLock (s : State) (l : LaneId) (wantLocked : Bool) : State :=
  (s.startPulse l .lock lockPulseMs).modLane l (fun x =>
    { x with lockGoal := some { wantLocked := wantLocked, confirmBy := none } })

/-- The lane is to keep its drawer shut now (R57): in IDLE, or in CLOSED without POWER, with the drawer closed, empty
and not locked, and no lock pulse of its own under way. -/
def Lane.shouldLock (x : Lane) : Bool :=
  (x.state == .idle || (x.state == .closed && !x.reasons.power)) && x.inputs.drawerClosed &&
    !x.inputs.bagPresent && !x.inputs.drawerLocked && x.lockGoal.isNone

/-- The shutting of R57. -/
def State.keepShut (s : State) (l : LaneId) : State :=
  if (s.lane l).shouldLock then s.beginLock l true else s

/-- The lane reaches IDLE (R51): IDLE with an empty set, closed otherwise; its session is over. A bag that already lies
in the drawer then (put in during CARD or DECLARE) is no change of bag-present: the lane stays IDLE and takes cards (R57
names only the change; DESIGN CHOICE, log entry 36). -/
def State.rest (s : State) (l : LaneId) : State :=
  (s.modLane l (fun x =>
    { x with
      session := none, phaseTimer := none, tagReader := none, bagLeft := false
      state := if x.reasons.isEmpty then .idle else closedState x.reasons
      display := if x.reasons.isEmpty then .ready else .laneClosed })).keepShut l

/-- The lane goes to closed (R50): the state its set gives, with no session part. -/
def State.goClosed (s : State) (l : LaneId) : State :=
  (s.modLane l (fun x =>
    { x with
      session := none, phaseTimer := none, tagReader := none, bagLeft := false
      state := closedState x.reasons
      display := .laneClosed })).keepShut l

/-- A jam (R53, R57, R61, R66, R67): JAMMED is added, the session ends, the lane goes to JAMMED and LANE JAMMED is
raised on the branch link. A route part stays. -/
def State.jam (s : State) (l : LaneId) : State :=
  ((s.modLane l (fun x => { x with reasons := { x.reasons with jammed := true }, lockGoal := none })).goClosed l).notify
    .branch .laneJammed

/-! ### The Diverter Arbiter (R71, R72) -/

/-- A lane's request is waiting. -/
def Diverter.waiting (d : Diverter) : LaneId → Bool
  | .a => d.waitingA
  | .b => d.waitingB

/-- Set or clear a lane's waiting request. -/
def Diverter.setWaiting (d : Diverter) (l : LaneId) (w : Bool) : Diverter :=
  match l with
  | .a => { d with waitingA := w }
  | .b => { d with waitingB := w }

/-- The grant goes to a lane (R71), which goes to TIP and commands the diverter to its record's bin (R65). -/
def State.grantTo (s : State) (l : LaneId) : State :=
  let bin := match s.reservedOf l with
    | some r => r.bin
    | none => none
  ({ s with diverter := { s.diverter.setWaiting l false with
      holder := some l, lastServed := l, target := bin } }).modLane l (fun x =>
    { x with state := .tip, phaseTimer := some (s.now + positioningMs) })

/-- A lane's request for the diverter (R71): granted at once when the holder is NONE. -/
def State.requestDiverter (s : State) (l : LaneId) : State :=
  match s.diverter.holder with
  | none => s.grantTo l
  | some _ => { s with diverter := s.diverter.setWaiting l true }

/-- The lane to which a released grant goes (R71): the one whose request waits, or of two the one not last served. -/
def Diverter.nextLane (d : Diverter) : Option LaneId :=
  if d.waitingA && d.waitingB then some d.lastServed.other
  else if d.waitingA then some .a
  else if d.waitingB then some .b
  else none

/-- The release of the grant a lane holds, passed to a waiting lane (R71, R72). -/
def State.releaseGrant (s : State) (l : LaneId) : State :=
  if s.diverter.holder = some l then
    let freed : State := { s with diverter := { s.diverter with holder := none } }
    match freed.diverter.nextLane with
    | some m => freed.grantTo m
    | none => freed
  else s

/-- A lane's waiting request is withdrawn (R72). -/
def State.withdrawRequest (s : State) (l : LaneId) : State :=
  { s with diverter := s.diverter.setWaiting l false }

/-- Entry into TIP_WAIT (R65). -/
def State.enterTipWait (s : State) (l : LaneId) : State :=
  (s.modLane l (fun x => { x with state := .tipWait, phaseTimer := none })).requestDiverter l

/-! ### The return (R67, R68) -/

/-- The return motor pulse begins (R67). -/
def State.beginReturnPulse (s : State) (l : LaneId) : State := s.startPulse l .ret returnPulseMs

/-- Entry into RETURN (R67): the bolt is released first when it is locked. -/
def State.enterReturn (s : State) (l : LaneId) (why : ReturnReason) : State :=
  let t := s.modLane l (fun x =>
    { x with
      state := .ret, returnReason := some why, phaseTimer := none, tagReader := none, lockGoal := none
      display := .returning why
      session := x.session.map (fun y => { y with record := none }) })
  if (t.lane l).inputs.drawerLocked then t.beginLock l false else t.beginReturnPulse l

/-- Entry into RETURN_WAIT (R57, R61, R67, R68). A lock pulse of R57 that still runs when a bag appears in IDLE runs to
its end, and its confirmation is given up (DESIGN CHOICE, log entry 48). -/
def State.enterReturnWait (s : State) (l : LaneId) (why : Option ReturnReason) : State :=
  s.modLane l (fun x =>
    { x with
      state := .returnWait, returnReason := why, phaseTimer := some (s.now + returnWaitMs), lockGoal := none
      display := match why with
        | some r => .returning r
        | none => .takeBag })

/-! ### The weigh and the restart re-check (R63, R70) -/

/-- Entry into WEIGH (R63). -/
def State.enterWeigh (s : State) (l : LaneId) : State :=
  s.modLane l (fun x =>
    { x with state := .weigh, samples := [], phaseTimer := some (s.now + weighMs), tagReader := none,
             display := .processing })

/-- The session part made from a record for its re-check (R70). -/
def recheckSession (r : BagRecord) : Session :=
  { card := none, depositor := r.depositor, stage := .complete, notes := some r.decl.notes,
    silver := some r.decl.silver, bronze := some r.decl.bronze, keyed := [], refused := 0, keyTimer := none,
    tag := some r.tag, capture := none, verdict := none, record := some r.tag }

/-- The lane resumes at WEIGH with its retained record (R53, R70): RESTARTED is set (R14). -/
def State.resumeAtWeigh (s : State) (l : LaneId) (r : BagRecord) : State :=
  ((s.modRecord r.tag (fun x => { x with flags := { x.flags with restarted := true } })).modLane l (fun x =>
    { x with session := some (recheckSession r) })).enterWeigh l

/-- The opening check (R53). A drawer bag without a record is judged once its tag has been read; until then the lane
rests in CLOSED with its reader commanded (log entry 8). -/
def State.openingCheck (s : State) (l : LaneId) : State :=
  match s.reservedOf l with
  | some r =>
    if (s.lane l).inputs.bagPresent then s.resumeAtWeigh l r
    else (s.rollback r).rest l
  | none =>
    if (s.lane l).inputs.bagPresent then
      s.modLane l (fun x => { x with state := .closed, tagReader := some .openingCheck })
    else s.rest l

/-- Reasons are removed from a lane's set (R51, R53): a closed lane whose set becomes empty makes the opening check, at
once or at the end of the route in progress. A lane in a session runs on (log entry 9). -/
def State.removeReasons (s : State) (l : LaneId) (f : CloseSet → CloseSet) : State :=
  let left := f (s.lane l).reasons
  let t := s.modLane l (fun x => { x with reasons := left })
  if (s.lane l).isClosed then
    if left.isEmpty then
      if (s.lane l).reasons.isEmpty then t
      else if (s.lane l).route.isSome then (t.modLane l (fun x => { x with state := .closed })).keepShut l
      else t.openingCheck l
    else (t.modLane l (fun x => { x with state := closedState left })).keepShut l
  else t

/-- A reason that closes at IDLE is added (R51): an IDLE lane closes at once, a closed lane stays closed, a lane in a
session runs on. -/
def State.addReason (s : State) (l : LaneId) (f : CloseSet → CloseSet) : State :=
  let t := s.modLane l (fun x => { x with reasons := f x.reasons })
  if (s.lane l).state = .idle then t.goClosed l
  else if (s.lane l).isClosed then t.goClosed l
  else t

/-- A close at once, by FORCED (`true`) or POWER (R52): the request withdrawn, the record rolled back for FORCED, the
grant of a lane in TIP released, the outputs reset but the tip of a route in progress. -/
def State.closeAtOnce (s : State) (l : LaneId) (forced : Bool) : State :=
  let added := s.modLane l (fun x =>
    { x with reasons := if forced then { x.reasons with forced := true } else { x.reasons with power := true } })
  let withdrawn := added.withdrawRequest l
  let rolled := if forced then
      match withdrawn.reservedOf l with
      | some r => withdrawn.rollback r
      | none => withdrawn
    else withdrawn
  let released := if (s.lane l).state = .tip then rolled.releaseGrant l else rolled
  ((released.resetOutputs l).modLane l (fun x => { x with lockGoal := none })).goClosed l

/-- A forcing of the drawer (R69). -/
def State.forceDrawer (s : State) (l : LaneId) : State :=
  (s.closeAtOnce l true).notify .security .laneForced

/-- The condition of R69 that stands by itself, judged when inputs are first taken (R55). -/
def showsForcing (i : LaneInputs) : Bool := i.drawerForced || (i.drawerLocked && !i.drawerClosed)

/-- A lane takes its four inputs afresh (R55): a forcing that holds then is taken as if its input had just
changed. -/
def State.takeInputs (s : State) (l : LaneId) (i : LaneInputs) : State :=
  let t := s.modLane l (fun x => { x with inputs := i })
  if showsForcing i then t.forceDrawer l else t.keepShut l

/-! ### CHECK (R64, R70) -/

/-- The declaration a session holds; an amount not yet kept counts 0. -/
def Session.decl (x : Session) : Declaration :=
  { notes := x.notes.getD 0, silver := x.silver.getD 0, bronze := x.bronze.getD 0 }

/-- The mass of a capture; an over-range capture is never kept (R85). -/
def captureMass : Reading → Nat
  | .mass m => m
  | .overRange => 0

/-- The decision a kept verdict writes into a record (R84). -/
def Verdict.decision : Verdict → Decision
  | .accept => .accept
  | .hold => .hold
  | .ret _ => .hold

/-- The hold class a decision gives (R2). -/
def Decision.holdClass : Decision → BagClass
  | .accept => .normal
  | .hold => .inspect

/-- Raise HELD DEPOSIT on the branch link for a HOLD decision (R64, R87). -/
def State.noteHold (s : State) (v : Verdict) : State :=
  if v = .hold then s.notify .branch .heldDeposit else s

/-- What a session brings to a reservation (R6). -/
def dropFacts (l : LaneId) (x : Session) (capture : Reading) (a : AcceptanceAnswer) : DropFacts :=
  { lane := l, depositor := x.depositor, tag := x.tag.getD 0, decl := x.decl, mass := captureMass capture,
    lo := a.lo, hi := a.hi, decision := a.verdict.decision, holdClass := a.verdict.decision.holdClass }

/-- The part of a new drop's CHECK that follows its three tests (R64): the drop is counted, decided, and, when kept,
reserved. -/
def State.decideDrop (s : State) (l : LaneId) (x : Session) (capture : Reading) (d : Depositor) : State :=
  let a := acceptance s.config x.decl capture d.trust
  let counted := (s.modDep x.depositor (fun e => { e with windowCount := e.windowCount + 1 })).modLane l (fun y =>
    { y with session := some { x with capture := some capture, verdict := some a.verdict } })
  match a.verdict with
  | .ret why => counted.enterReturn l why
  | v =>
    match counted.reserve (dropFacts l x capture a) with
    | .error why => counted.enterReturn l why
    | .ok made =>
      ((made.modLane l (fun y =>
        { y with session := some { x with capture := some capture, verdict := some v, record := x.tag } })).noteHold
          v).enterTipWait l

/-- CHECK of a new drop (R64): the three tests on the depositor entry, in order. -/
def State.checkDrop (s : State) (l : LaneId) (x : Session) (capture : Reading) : State :=
  match s.dep x.depositor with
  | none => s.enterReturn l .card
  | some d =>
    if d.state ≠ .active ∨ some d.card ≠ x.card then s.enterReturn l .card
    else if d.dropLimit ≤ d.windowCount then s.enterReturn l .wait
    else if 24 ≤ d.liveCount then s.enterReturn l .limit
    else s.decideDrop l x capture d

/-- A re-check that keeps the bag replaces the record's mass, band, decision and hold class, and adjusts the bin's
mass sum (R14, R87). -/
def State.replaceCapture (s : State) (r : BagRecord) (mass : Nat) (a : AcceptanceAnswer) : State :=
  let t := match r.bin with
    | some i => s.modBin i (fun b => { b with massSum := b.massSum + mass - r.mass })
    | none => s
  t.modRecord r.tag (fun x =>
    { x with mass := mass, lo := a.lo, hi := a.hi, decision := a.verdict.decision,
             holdClass := a.verdict.decision.holdClass })

/-- CHECK of a restart re-check (R70): no test and no reservation. -/
def State.recheck (s : State) (l : LaneId) (x : Session) (r : BagRecord) (capture : Reading) : State :=
  let trust := match s.dep r.depositor with
    | some d => d.trust
    | none => 0
  let a := acceptance s.config r.decl capture trust
  let noted := s.modLane l (fun y =>
    { y with session := some { x with capture := some capture, verdict := some a.verdict } })
  match a.verdict with
  | .ret why => (noted.rollback r).enterReturn l why
  | v => ((noted.replaceCapture r (captureMass capture) a).noteHold v).enterTipWait l

/-- CHECK (R64, R70): one event of the lane, with the capture of the settled reading. -/
def State.check (s : State) (l : LaneId) (capture : Reading) : State :=
  match (s.lane l).session with
  | none => s
  | some x =>
    match x.record with
    | none => s.checkDrop l x capture
    | some t =>
      match s.findTag t with
      | some r => if r.state = .reserved then s.recheck l x r capture else s
      | none => s

/-! ### Tip and route (R65, R66, R12) -/

/-- The tip begins (R65, R9): the record in flight, the route part, the tip pulse, ROUTE. -/
def State.beginTip (s : State) (l : LaneId) (r : BagRecord) : State :=
  let tipped := (s.tipRecord r.tag).modLane l (fun x =>
    { x with
      state := .route, phaseTimer := none
      session := x.session.map (fun y => { y with record := none })
      route := some { record := r.tag, tipTime := s.reading, tipCount := s.now, sensor := false,
                      arrivalRead := none } })
  tipped.startPulse l .tip tipPulseMs

/-- A tip that is not completed (R65): rollback, the grant released, DIVERTER added, LANE JAMMED, and the bag
returned with reason FAULT. -/
def State.failTip (s : State) (l : LaneId) (r : BagRecord) : State :=
  ((((s.rollback r).releaseGrant l).modLane l (fun x =>
    { x with reasons := { x.reasons with diverter := true } })).notify .branch .laneJammed).enterReturn l .fault

/-- The lane's part of a route's end: a lane in ROUTE reaches IDLE, a closed lane whose set is empty makes the opening
check (R53, R66). A lane in ROUTE with an empty set makes no opening check, also with bag-present set: R66 and R51 have
it reach IDLE, where R53 asks the check of a route that ends while the set is empty (DESIGN CHOICE, log entry 59). -/
def State.endRoute (s : State) (l : LaneId) : State :=
  if (s.lane l).state = .route then s.rest l
  else if (s.lane l).isClosed && (s.lane l).reasons.isEmpty then s.openingCheck l
  else s

/-- The receipt of a record (R66). -/
def receiptFor (r : BagRecord) : Receipt :=
  { number := r.receipt.getD 0, dropTime := r.dropTime.getD { day := 0, second := 0 }, lane := r.lane,
    total := r.decl.total }

/-- The receipt is printed, or, at a printer fault, its number is shown for 30 s (R66). -/
def State.giveReceipt (s : State) (l : LaneId) (r : BagRecord) (printerFault : Bool) : State :=
  s.modLane l (fun x =>
    if printerFault then { x with display := .receiptNumber (r.receipt.getD 0) (s.now + receiptShownMs) }
    else { x with printed := some (receiptFor r) })

/-- An arrival is taken (R66, R11). -/
def State.arrive (s : State) (l : LaneId) (r : BagRecord) (printerFault : Bool) : State :=
  ((((s.arriveRecord r.tag).modLane l (fun x => { x with route := none })).releaseGrant l).endRoute l).giveReceipt
    l r printerFault

/-- The route timeout (R12, R66). -/
def State.timeoutRoute (s : State) (l : LaneId) (r : BagRecord) : State :=
  ((((s.loseRecord r).modLane l (fun x =>
    { x with route := none, reasons := { x.reasons with diverter := true } })).releaseGrant l).goClosed l).notify
      .branch .laneJammed

/-- The lane's settled reading, if the last three samples settle (R63); the samples are held latest first. -/
def settled : List Reading → Option Reading
  | .mass a :: .mass b :: .mass c :: _ =>
    if a ≤ b + 2 ∧ b ≤ a + 2 ∧ a ≤ c + 2 ∧ c ≤ a + 2 ∧ b ≤ c + 2 ∧ c ≤ b + 2 then some (.mass a) else none
  | .overRange :: .overRange :: .overRange :: _ => some .overRange
  | _ => none

end Sys2Proof.Machine
end

