-- ==== Sys2Proof/Machine/BusOps.lean ====
section
/-!
DEFINITION. The shared operations of the Rack Bus Controller and the Sweep Unit: latches, permission, the end of a
selection, sweep steps, rack reads and the INVENTORY pass's asking (chapters 7, 8 and 12.4).
-/
namespace Sys2Proof.Machine

/-! ### Latches (R33, R133, R135) -/

/-- An engage begins (R133); `byRelatch` says that a RELATCH BIN began it. -/
def State.beginEngage (s : State) (i : BinIdx) (byRelatch : Bool) : State :=
  s.modBin i (fun b => { b with op := .engaging s.now byRelatch })

/-- A bin becomes UNSECURED, with BIN UNSECURED on the security link (R135). -/
def State.makeUnsecured (s : State) (i : BinIdx) : State :=
  (s.modBin i (fun b => { b with latch := .unsecured, op := .idle })).notify .security .binUnsecured

/-- A latch that did not confirm: FAULT, OUT_OF_SERVICE and BIN UNSECURED on the security link (R33, R131, R133). -/
def State.faultLatch (s : State) (i : BinIdx) : State :=
  (s.modBin i (fun b => { b with latch := .fault, cls := .outOfService, op := .idle })).notify
    .security .binUnsecured

/-- The latch operation is RELEASING or ENGAGING. -/
def LatchOp.inProgress : LatchOp → Bool
  | .releasing _ => true
  | .engaging _ _ => true
  | _ => false

/-- The latch operation is ENGAGING. -/
def LatchOp.isEngaging : LatchOp → Bool
  | .engaging _ _ => true
  | _ => false

/-- An UNLATCHED bin that no engage is already closing. -/
def Bin.standsOpen (b : Bin) : Bool := b.latch == .unlatched && !b.op.isEngaging

/-- An UNLATCHED bin is let go (R114, R134): relatched when its door is CLOSED, made UNSECURED when it is OPEN. -/
def State.letGo (s : State) (i : BinIdx) : State :=
  if (s.bin i).door = .closed then s.beginEngage i false else s.makeUnsecured i

/-! ### Permission (R120) -/

/-- The level conditions of R120 permit the bin to the party. -/
def State.permits (s : State) (p : Party) (b : Bin) : Bool :=
  match p with
  | .branch => s.levels.effective == .opened || (s.levels.effective == .inspect && b.cls == .inspect)
  | .courier => atMost .courier s.levels.effective && s.loggedIn

/-- The bin holds at least one LISTED record (R120, the content condition). -/
def State.holdsListed (s : State) (b : Bin) : Bool :=
  b.contents.any (fun t => (s.findTag t).any (fun r => r.state == .listed))

/-! ### The sweep pointer and the rack bus (R126a, R145 to R149) -/

/-- A rack read is taken (R148): the read part is made; not under a selection, the grant is then READ. -/
def State.startRead (s : State) (rack : RackIdx) (asker : Asker) : State :=
  { s with sweep := { s.sweep with
      read := some { rack := rack, asker := asker, start := s.reading, startCount := s.now } } }

/-- The pointer advances; the pass number goes up when it moves from 7 to 0 (R149). -/
def Sweep.advance (w : Sweep) : Sweep :=
  { w with pointer := w.pointer + 1, pass := if w.pointer = 7 then w.pass + 1 else w.pass }

/-- A step tested against the rack bus (R146): skipped, left waiting, or given its read. -/
def State.judgeStep (s : State) : State :=
  if s.selectedRack = some s.sweep.pointer then
    { s with sweep := { s.sweep.advance with step := .timing } }
  else if s.grant = .nothing then
    let t := s.startRead s.sweep.pointer .step
    { t with sweep := { t.sweep with step := .reading } }
  else { s with sweep := { s.sweep with step := .waiting } }

/-- A step ends (R145): a pending step is then taken at once. -/
def State.endStep (s : State) : State :=
  if s.sweep.pendingStep then
    State.judgeStep { s with sweep := { s.sweep with step := .timing, pendingStep := false } }
  else { s with sweep := { s.sweep with step := .timing } }

/-- The grant has become NONE: the INVENTORY pass, or else a WAITING step, asks for its read (R147, R210). R147 and R126a
let a SELECT RACK that reaches the controller together with a step's asking be taken before it. Here the asking is taken
in the event that frees the bus, so that it always comes first and such a SELECT RACK is BUSY (DESIGN CHOICE, log
entry 63). -/
def State.askBus (s : State) : State :=
  if s.grant = .nothing then
    match s.power.state with
    | .mains (.inventory rack false) =>
      ({ s with power := { s.power with state := .mains (.inventory rack true) } }).startRead rack .inventory
    | _ =>
      if s.sweep.step = .waiting then
        let t := s.startRead s.sweep.pointer .step
        { t with sweep := { t.sweep with step := .reading } }
      else s
  else s

/-- A RACK INVENTORY read is abandoned with the selection it runs under (R150). -/
def Sweep.abandonBranchRead (w : Sweep) : Sweep :=
  match w.read with
  | some r => if r.asker = .branch then { w with read := none } else w
  | none => w

/-! ### Letting a rack go (R134) -/

/-- The selection ends (R134): the rack bus is free and may be asked for. -/
def State.endSelection (s : State) : State :=
  State.askBus { s with selection := none, sweep := s.sweep.abandonBranchRead }

/-- No bin of a rack is UNLATCHED and none of its latches is releasing or engaging (R128, R134). -/
def State.rackQuiet (s : State) (rack : RackIdx) : Bool :=
  (rackBins rack).all (fun i => (s.bin i).latch != .unlatched && !(s.bin i).op.inProgress)

/-- A RELEASING selection ends in the event that leaves nothing of its rack to relatch (R134). -/
def State.endIfDone (s : State) : State :=
  match s.selection with
  | some x => if x.phase = .releasing ∧ s.rackQuiet x.rack then s.endSelection else s
  | none => s

/-- One bin of a rack let go when it stands open and the test says so. -/
def State.letGoIf (test : State → Bin → Bool) (s : State) (i : BinIdx) : State :=
  if (s.bin i).standsOpen && test s (s.bin i) then s.letGo i else s

/-- The release of the selection in force (R134); an already RELEASING one is not changed. -/
def State.releaseSelection (s : State) : State :=
  match s.selection with
  | some x =>
    if x.phase = .active then
      let t : State := { s with selection := some { x with phase := .releasing, holdEnd := none } }
      ((rackBins x.rack).foldl (State.letGoIf (fun _ _ => true)) t).endIfDone
    else s
  | none => s

/-- The bins that the level no longer permits to the party holding the selection are dealt with (R114). -/
def State.dropUnpermitted (s : State) : State :=
  match s.selection with
  | some x => ((rackBins x.rack).foldl (State.letGoIf (fun u b => !u.permits x.owner b)) s).endIfDone
  | none => s

/-- A released bin whose selection is RELEASING, gone, or no longer permitted it, is let go at once (R131). -/
def State.settleReleased (s : State) (i : BinIdx) : State :=
  match s.selection with
  | some x =>
    if x.rack = rackOf i ∧ x.phase = .active ∧ s.permits x.owner (s.bin i) then s else s.letGo i
  | none => s.letGo i

/-! ### The step timer and overdue racks (R145, R152) -/

/-- The step timer starts, its first expiry one step interval ahead, unless the clock is not set (R145, R211). -/
def State.startStepTimer (s : State) : State :=
  if s.clock.isSet then { s with sweep := { s.sweep with stepTimer := some (s.now + s.stepMs) } } else s

/-- A rack is overdue now with its mark clear (R152); never judged in RETENTION. -/
def State.isOverdue (s : State) (rack : RackIdx) : Bool :=
  !s.inRetention && s.overdueMs < s.sweep.ages.get rack && !s.sweep.overdue.get rack

/-- A rack becomes overdue (R152): RACK OVERDUE on the security link and its mark set. -/
def State.markOverdue (s : State) (rack : RackIdx) : State :=
  ({ s with sweep := { s.sweep with overdue := s.sweep.overdue.set rack true } }).notify .security .rackOverdue

/-- The overdue test of one rack. -/
def State.testOverdue (s : State) (rack : RackIdx) : State :=
  if s.isOverdue rack then s.markOverdue rack else s

/-- The overdue test of every rack, at a change of threshold or a return (R152). -/
def State.testAllOverdue (s : State) : State := (List.finRange 8).foldl State.testOverdue s

/-- The INVENTORY pass begins (R210): the step timer stops, a pending step is removed and a waiting step withdrawn
(R145), and the pass asks for the read of rack 0. -/
def State.beginInventory (s : State) : State :=
  State.askBus
    { s with
      power := { s.power with state := .mains (.inventory 0 false) }
      sweep := { s.sweep with
        stepTimer := none, pendingStep := false
        step := if s.sweep.step = .waiting then .timing else s.sweep.step } }

/-- The end of a finished INVENTORY pass (R211): RUN, the step timer started, POWER removed from both lanes, lane
A before lane B (DESIGN CHOICE, log entry 44). -/
def State.endInventory (s : State) : State :=
  let t := ({ s with power := { s.power with state := .mains .run } }).startStepTimer
  (t.removeReasons .a (fun c => { c with power := false })).removeReasons .b (fun c => { c with power := false })

/-- The sixteen bin checks of a rack read, in ascending slot order (R137, R148). -/
def State.checkRack (s : State) (rack : RackIdx) (seen : List (List Tag)) : State :=
  (List.finRange 16).foldl (fun x slot => x.binCheck (binAt rack slot) (seen.getD slot.val [])) s

/-- The age and mark of a rack read in full, and the read part removed (R148, R151). -/
def Sweep.readDone (w : Sweep) (rack : RackIdx) : Sweep :=
  { w with ages := w.ages.set rack 0, overdue := w.overdue.set rack false, read := none }

/-- What the completion of a read does for its asker (R148, R210, R211): a step's read advances the pointer and ends
the step; an INVENTORY pass goes on to its next rack, or ends; whoever waits for the bus then asks. -/
def State.finishRead (s : State) (asker : Asker) : State :=
  match asker with
  | .step => (State.endStep { s with sweep := s.sweep.advance }).askBus
  | .branch => s
  | .inventory =>
    match s.power.state with
    | .mains (.inventory rack true) =>
      if rack = 7 then s.endInventory
      else State.askBus { s with power := { s.power with state := .mains (.inventory (rack + 1) false) } }
    | _ => s.askBus

end Sys2Proof.Machine
end

