-- ==== Sys2Proof/Machine/LevelOps.lean ====
section
/-!
DEFINITION. The shared operations of the Level Arbiter and the Time-Lock Table, and the closing of a manifest
(chapters 6 and 10.5).
-/
namespace Sys2Proof.Machine

/-! ### The allowance (R111) -/

/-- A window contains the present moment (R111). -/
def Window.contains (w : Window) (weekDay minute : Nat) : Bool :=
  w.days.getLsbD weekDay && w.startMinute ≤ minute && minute < w.endMinute

/-- The slots whose windows contain the present moment. -/
def State.openSlots (s : State) : List (Fin 8) :=
  (List.finRange 8).filter (fun i =>
    (s.windows.get i).any (fun w => w.contains s.weekDay s.minuteOfDay))

/-- The allowance as the windows and the clock give it now (R111): SEALED while the clock is not set. -/
def State.allowanceNow (s : State) : Level :=
  if s.clock.isSet then
    s.openSlots.foldl (fun a i =>
      match s.windows.get i with
      | some w => mostLevel a w.level
      | none => a) .sealed
  else .sealed

/-! ### Target, raise and lowering (R112 to R119) -/

/-- The greater of the branch request and the courier request, NONE counting below SEALED (R112). -/
def LevelArbiter.asked (a : LevelArbiter) : Level :=
  match a.courierRequest with
  | .courier => mostLevel a.branchRequest .courier
  | .nothing => a.branchRequest

/-- The target: the least of the ceiling, the allowance and what is asked (R112). -/
def LevelArbiter.supported (a : LevelArbiter) : Level :=
  leastLevel a.ceiling (leastLevel a.allowance a.asked)

/-- The master may confirm a raise to the level (R118). -/
def LevelArbiter.mayConfirmTo (a : LevelArbiter) (p : Party) (target : Level) : Bool :=
  match p with
  | .branch => atMost target a.branchRequest
  | .courier => a.courierRequest == .courier && target == .courier

/-- The master may confirm the raise in progress (R118). -/
def LevelArbiter.mayConfirm (a : LevelArbiter) (p : Party) : Bool :=
  match a.raise with
  | some r => a.mayConfirmTo p r.target
  | none => false

/-- Set the raise part. -/
def State.setRaise (s : State) (r : Option Raise) : State := { s with levels := { s.levels with raise := r } }

/-- A master's link. -/
def Party.link : Party → Link
  | .branch => .branch
  | .courier => .courier

/-- Raise RAISE READY on a master's link when told to (R117). -/
def State.noteReady (s : State) (p : Party) (yes : Bool) : State := if yes then s.notify p.link .raiseReady else s

/-- A raise becomes READY (R117): the confirm end is set and RAISE READY goes to each master that may confirm. -/
def State.becomeReady (s : State) (r : Raise) : State :=
  let t := s.setRaise (some { r with phase := .ready, confirmEnd := some (s.now + s.confirmMs) })
  (t.noteReady .branch (t.levels.mayConfirm .branch)).noteReady .courier (t.levels.mayConfirm .courier)

/-- A raise starts (R115); without a delay it is READY in the same event. -/
def State.startRaise (s : State) (target : Level) : State :=
  let r : Raise :=
    { phase := .raising, target := target, start := s.reading, startCount := s.now,
      delayEnd := s.now + s.raiseDelayMs target, confirmEnd := none }
  if r.delayEnd ≤ s.now then s.becomeReady r else s.setRaise (some r)

/-- A RAISING raise goes on toward a target (R116): its delay counts from the raise start. -/
def State.carryRaise (s : State) (r : Raise) (target : Level) : State :=
  let q := { r with target := target, delayEnd := r.startCount + s.raiseDelayMs target }
  if q.delayEnd ≤ s.now then s.becomeReady q else s.setRaise (some q)

/-- A READY raise carried to a target (R117): it stays READY when the target's delay has run from the raise start,
with RAISE READY for a master newly able to confirm; otherwise it returns to RAISING. `before` is the arbiter as the
event found it. -/
def State.carryReady (s : State) (before : LevelArbiter) (r : Raise) (target : Level) : State :=
  let delayEnd := r.startCount + s.raiseDelayMs target
  if delayEnd ≤ s.now then
    let t := s.setRaise (some { r with target := target, delayEnd := delayEnd })
    (t.noteReady .branch (!before.mayConfirm .branch && t.levels.mayConfirm .branch)).noteReady .courier
      (!before.mayConfirm .courier && t.levels.mayConfirm .courier)
  else s.setRaise (some { r with phase := .raising, target := target, delayEnd := delayEnd, confirmEnd := none })

/-- The effects of a change of the effective level on the lanes and the notices (R105); lane A before lane B (DESIGN
CHOICE, log entry 44). -/
def State.levelEffects (s : State) (old new : Level) : State :=
  let lanes :=
    if new = .opened then
      (s.addReason .a (fun c => { c with level := true })).addReason .b (fun c => { c with level := true })
    else if old = .opened then
      (s.removeReasons .a (fun c => { c with level := false })).removeReasons .b (fun c => { c with level := false })
    else s
  (lanes.notify .security .levelChanged).notify .courier .levelChanged

/-- Lowering (R113): the raise removed, the level set, the bins of R114, the effects of R105. -/
def State.lower (s : State) (target : Level) : State :=
  let t : State := { s with levels := { s.levels with effective := target, raise := none } }
  t.dropUnpermitted.levelEffects s.levels.effective target

/-- The target is recomputed and compared with the effective level and the raise (R112). `before` is the arbiter as
the event found it. -/
def State.arbitrate (s : State) (before : LevelArbiter) : State :=
  let target := s.levels.supported
  let t : State := { s with levels := { s.levels with target := target } }
  if target.rank < s.levels.effective.rank then t.lower target
  else if target = s.levels.effective then t.setRaise none
  else
    match s.levels.raise with
    | none => t.startRaise target
    | some r =>
      match r.phase with
      | .raising => t.carryRaise r target
      | .ready => t.carryReady before r target

/-- The allowance is recomputed; where it changes, so is the target (R111). -/
def State.recomputeAllowance (s : State) : State :=
  let a := s.allowanceNow
  if a = s.levels.allowance then s
  else State.arbitrate { s with levels := { s.levels with allowance := a } } s.levels

/-! ### The manifest's closing (R187) -/

/-- A record on the list becomes HELD again (R18). -/
def State.delist (s : State) (receipt : Nat) : State :=
  { s with register := { s.register with
      records := s.register.records.map (fun r =>
        if r.receipt = some receipt ∧ r.state = .listed then { r with state := .held } else r) } }

/-- Steps 2 and 3 of the closing (R187): each record still named becomes HELD and is counted as returned; CLOSED, with
the collection end. -/
def State.returnEntries (s : State) : State :=
  let t := s.manifest.entries.foldl State.delist s
  { t with manifest := { s.manifest with
      state := .closed, entries := [], returned := s.manifest.returned + s.manifest.entries.length
      finish := some s.reading } }

/-- The courier request becomes NONE and the target is recomputed (R107). -/
def State.dropCourierRequest (s : State) : State :=
  State.arbitrate { s with levels := { s.levels with courierRequest := .nothing } } s.levels

/-- The crew's selection is released (R187, step 1). -/
def State.releaseCourier (s : State) : State :=
  match s.selection with
  | some x => if x.owner = .courier then s.releaseSelection else s
  | none => s

/-- The closing of an ACTIVE manifest (R187), its four steps in order. -/
def State.closeManifest (s : State) : State := s.releaseCourier.returnEntries.dropCourierRequest

end Sys2Proof.Machine
end

