-- ==== Sys2Proof/Config.lean ====
section
/-!
DEFINITION. The free values: what the manual leaves open and nothing here fixes. They have no body, so a claim about
them holds for every value.
-/
namespace Sys2Proof

/-- How the payload of a request with optional parts is laid out (R195, R197): the manual gives the sizes of its
fields but not how the parts present are told apart (TRIAL CHECK, CLEAR STRAYS, LIST, ENROL, EDIT). The command a
payload spells, for a link and a code; none for a payload of no form the code takes. Free value, log entry 3. -/
opaque Config.optionalForm : Link → Nat → List Byte → Option Instr

/-- The bytes of the value of configuration field 18 in a SET CONFIG, less one: six active levels fill from one byte to
six (R197, R203). Free value, log entry 3. -/
opaque Config.levelsSize : Fin 6

/-- The active level of a lane's output that a value of configuration field 18 spells: active-high, active-low, or
neither (R203, R204). Free value, log entry 3. -/
opaque Config.carriedLevel : LaneId → Actuator → List Byte → Option Bool

/-- The byte that stands for a value which its owning rule names without a number (R197). Free value, log entry 4. -/
opaque Config.nameByte : Machine.Name → Byte

/-- What precedes an optional item of a result that is present. Free value, log entry 4. -/
opaque Config.presentMark : Machine.OptionalItem → List Byte

/-- What stands for an optional item of a result that is absent. Free value, log entry 4. -/
opaque Config.absentMark : Machine.OptionalItem → List Byte

/-- What precedes a list of the given number of items. Free value, log entry 4. -/
opaque Config.listMark : Machine.OpenList → Nat → List Byte

/-- The bytes of an item whose layout or unit no rule gives. Free value, log entry 4. -/
opaque Config.unlaidBytes : Machine.Unlaid → List Byte

/-- Whether a battery-low condition that is set clears at a count of the clock's steps: R208 has it clear, and gives no
moment. Free value, log entry 62. -/
opaque Config.batteryRecovers : Nat → Bool

end Sys2Proof
end

