-- ==== Sys2Proof/Machine/Replies.lean ====
section
/-!
DEFINITION. The bytes of the results of requests: each kind of field in the size and form of R197, and each result's
items in the order in which its owning rule lists them (log entry 5). What the manual leaves open of a layout is a free
value of Config (log entry 4).
-/
namespace Sys2Proof.Machine

/-! ### The kinds of fields (R197) -/

/-- A number as `n` bytes, high byte first. -/
def bytesOf (n value : Nat) : List Byte :=
  match n with
  | 0 => []
  | k + 1 => BitVec.ofNat 8 (value / 256 ^ k) :: bytesOf k value

/-- A decimal number packed two digits to a byte in `n` bytes, the first digit in the high half of the first byte. -/
def packedBytes (n value : Nat) : List Byte :=
  match n with
  | 0 => []
  | k + 1 => BitVec.ofNat 8 (value / 100 ^ k % 100 / 10 * 16 + value / 100 ^ k % 10) :: packedBytes k value

/-- A receipt number. -/
def receiptBytes (n : Nat) : List Byte := bytesOf 3 n

/-- A tag serial. -/
def tagBytes (t : Tag) : List Byte := packedBytes 5 t

/-- A card number. -/
def cardBytes (c : Card) : List Byte := packedBytes 6 c

/-- Money. -/
def moneyBytes (pence : Nat) : List Byte := bytesOf 4 pence

/-- A mass in a reply. -/
def massBytes (dg : Nat) : List Byte := bytesOf 2 dg

/-- The captured mass of a lane's session, 0xFFFFFF for over-range. -/
def captureBytes : Reading → List Byte
  | .mass dg => bytesOf 3 dg
  | .overRange => bytesOf 3 0xFFFFFF

/-- A margin bound: four bytes, signed, in two's complement. -/
def boundBytes (v : Int) : List Byte := bytesOf 4 (BitVec.ofInt 32 v).toNat

/-- A mass sum or a bin mass limit. -/
def massSumBytes (dg : Nat) : List Byte := bytesOf 3 dg

/-- A level. -/
def levelBytes (v : Level) : List Byte := bytesOf 1 v.rank

/-- The courier request: COURIER, or 0xFF for NONE. -/
def courierRequestBytes : CourierRequest → List Byte
  | .courier => levelBytes .courier
  | .nothing => [0xFF]

/-- A bin, 0xFF where it is absent. -/
def binBytes : Option BinIdx → List Byte
  | some i => bytesOf 1 i.val
  | none => [0xFF]

/-- A moment: day number in two bytes, second of the day in three. -/
def momentBytes (m : Moment) : List Byte := bytesOf 2 m.day ++ bytesOf 3 m.second

/-- A set of at most eight members, the first in the lowest bit. -/
def setBytes (members : List Bool) : List Byte :=
  bytesOf 1 (members.foldr (fun b n => (if b then 1 else 0) + 2 * n) 0)

/-- The close-reason set, in the order of R51. -/
def reasonBytes (c : CloseSet) : List Byte :=
  setBytes [c.level, c.power, c.clock, c.branch, c.forced, c.jammed, c.diverter, c.service]

/-- The flags of a record, in the order of R17. -/
def flagBytes (f : Flags) : List Byte := setBytes [f.misrouteSuspect, f.outOfManifestScan, f.restarted]

/-- A valid-level set, in ascending order of the levels. -/
def validLevelBytes (v : ValidLevels) : List Byte := setBytes [v.sealed, v.courier, v.inspect]

/-- A lane byte's value (log entry 5). -/
def laneByte : LaneId → Byte
  | .a => 0
  | .b => 1

/-- A lane. -/
def laneBytes (l : LaneId) : List Byte := [laneByte l]

/-- A value that its rule names without a number. -/
def nameBytes (n : Name) : List Byte := [Config.nameByte n]

/-- A mark or condition that holds or does not. -/
def conditionBytes (c : Condition) (holds : Bool) : List Byte := nameBytes (.condition c holds)

/-- An item that may be absent. -/
def optionalBytes {α : Type} (item : OptionalItem) (f : α → List Byte) : Option α → List Byte
  | some x => Config.presentMark item ++ f x
  | none => Config.absentMark item

/-- A receipt number whose presence another rule settles, with no mark: R3 gives every record from the tip on one, and
R170 a next start just where MORE is set. -/
def givenReceiptBytes (receipt : Option Nat) : List Byte := receipt.toList.flatMap receiptBytes

/-- A list whose number of items no rule reports beside it. -/
def listBytes {α : Type} (name : OpenList) (f : α → List Byte) (items : List α) : List Byte :=
  Config.listMark name items.length ++ items.flatMap f

/-! ### Names without what they carry -/

/-- The kind of a latch operation. -/
def LatchOp.name : LatchOp → LatchOpName
  | .idle => .nothing
  | .releasing _ => .releasing
  | .engaging _ _ => .engaging
  | .waitingForDoor _ => .waitingForDoor

/-- The decision of a verdict. -/
def Verdict.name : Verdict → DecisionName
  | .accept => .accept
  | .hold => .hold
  | .ret _ => .ret

/-- The reason of a verdict of RETURN. -/
def Verdict.reason : Verdict → Option ReturnReason
  | .accept => none
  | .hold => none
  | .ret why => some why

/-- The decision kept in a record. -/
def Decision.name : Decision → DecisionName
  | .accept => .accept
  | .hold => .hold

/-- The power state without its phase. -/
def PowerState.name : PowerState → PowerName
  | .mains _ => .mains
  | .battery => .battery
  | .retention => .retention

/-- The phase on MAINS. -/
def PowerState.phaseName : PowerState → Option PhaseName
  | .mains (.inventory _ _) => some .inventory
  | .mains .run => some .run
  | .battery => none
  | .retention => none

/-- The rack of an INVENTORY pass in progress. -/
def PowerState.passRack : PowerState → Option RackIdx
  | .mains (.inventory rack _) => some rack
  | .mains .run => none
  | .battery => none
  | .retention => none

/-- The last-start cause as READ NOTICES carries it (R201). -/
def LastStart.value : LastStart → Byte
  | .retentionKept => 0
  | .retentionLost => 1

/-! ### Parts that several results share -/

/-- A decision and a hold class. -/
def decidedBytes (d : Decision) (c : BagClass) : List Byte := nameBytes (.decision d.name) ++ nameBytes (.bagClass c)

/-- The three amounts of a declaration. -/
def declarationBytes (d : Declaration) : List Byte := moneyBytes d.notes ++ moneyBytes d.silver ++ moneyBytes d.bronze

/-- A pass number and a time (R2, R36, R154). -/
def passBytes (pass : BitVec 16) (time : Moment) : List Byte := bytesOf 2 pass.toNat ++ momentBytes time

/-- A sighting of a stray (R154). -/
def StraySighting.bytes (x : StraySighting) : List Byte := binBytes (some x.bin) ++ passBytes x.pass x.time

/-- A stray entry (R156): 21 bytes. -/
def StrayEntry.bytes (x : StrayEntry) : List Byte := tagBytes x.tag ++ x.first.bytes ++ x.latest.bytes

/-- The released, withdrawn and returned counts (R174). -/
def countBytes (released withdrawn returned : Nat) : List Byte :=
  bytesOf 1 released ++ bytesOf 2 withdrawn ++ bytesOf 1 returned

/-- The raise part (R121): its target and start, and the end of its phase with the minutes to it. -/
def RaiseReport.bytes (r : RaiseReport) : List Byte :=
  levelBytes r.target ++ momentBytes r.start ++ momentBytes r.finish ++ bytesOf 1 r.minutesLeft ++
    Config.unlaidBytes (.confirmers r.branchMayConfirm r.courierMayConfirm)

/-- The raise state of a level report. -/
def LevelReport.raiseState (r : LevelReport) : RaiseState :=
  match r.raise with
  | none => .nothing
  | some x =>
    match x.phase with
    | .raising => .raising
    | .ready => .ready

/-- READ LEVEL (R121). R197 has a set carried as bits and gives no form for a list; the numbers of the open window slots
are written as a list, one byte a number in ascending order (DESIGN CHOICE, log entry 64). -/
def LevelReport.bytes (r : LevelReport) : List Byte :=
  levelBytes r.effective ++ levelBytes r.target ++ levelBytes r.ceiling ++ conditionBytes .duress r.duress ++
    levelBytes r.allowance ++ listBytes .slots (fun i => bytesOf 1 i.val) r.openSlots ++
    levelBytes r.branchRequest ++ courierRequestBytes r.courierRequest ++ conditionBytes .loggedIn r.loggedIn ++
    nameBytes (.raise r.raiseState) ++ optionalBytes .raise RaiseReport.bytes r.raise

/-- A selection (R142). -/
def SelectionReport.bytes (r : SelectionReport) : List Byte :=
  nameBytes (.party r.owner) ++ bytesOf 1 r.rack.val ++ nameBytes (.selectionPhase r.phase) ++
    optionalBytes .holdEnd momentBytes r.holdEnd ++ optionalBytes .minutesLeft (bytesOf 1) r.minutesLeft

/-- One bin of READ RACK (R142). -/
def RackBinReport.bytes (r : RackBinReport) : List Byte :=
  nameBytes (.binClass r.cls) ++ nameBytes (.latch (some r.latch)) ++ nameBytes (.door r.door) ++
    nameBytes (.latchOp r.op.name) ++ optionalBytes .permitted (conditionBytes .permitted) r.permitted

/-- READ RACK (R142). -/
def RackReport.bytes (r : RackReport) : List Byte :=
  nameBytes (.grant r.grant) ++ optionalBytes .selection SelectionReport.bytes r.selection ++
    optionalBytes .readRack (fun k : RackIdx => bytesOf 1 k.val) r.readRack ++ r.bins.flatMap RackBinReport.bytes

/-- A rack read in progress (R157): its rack, its asker and the seconds since it began, at most the 2 s it lasts. -/
def readPartBytes (x : RackIdx × Asker × Nat) : List Byte :=
  bytesOf 1 x.1.val ++ nameBytes (.asker x.2.1) ++ bytesOf 1 x.2.2

/-- READ SWEEP (R157): the threshold in minutes, each age in whole seconds in four bytes (R151). -/
def SweepReport.bytes (r : SweepReport) : List Byte :=
  bytesOf 1 r.interval ++ Config.unlaidBytes (.stepInterval r.stepInterval) ++ bytesOf 2 (r.threshold / 60000) ++
    bytesOf 1 r.pointer.val ++ bytesOf 2 r.pass.toNat ++ nameBytes (.step r.step) ++
    conditionBytes .pendingStep r.pendingStep ++ optionalBytes .stepExpiry (bytesOf 2) r.nextExpiry ++
    optionalBytes .read readPartBytes r.read ++
    (r.ages.zip r.overdue).flatMap (fun x => bytesOf 4 x.1 ++ conditionBytes .overdue x.2) ++
    bytesOf 1 r.strays ++ conditionBytes .incomplete r.incomplete

/-- A window slot's contents (R110). -/
def Window.bytes (w : Window) : List Byte :=
  [w.days] ++ bytesOf 2 w.startMinute ++ bytesOf 2 w.endMinute ++ levelBytes w.level

/-- READ CONFIG (R204): the eighteen fields in the order of R203. -/
def ConfigWord.bytes (c : ConfigWord) : List Byte :=
  bytesOf 1 c.verificationInterval ++ bytesOf 1 c.rackHoldMax ++ bytesOf 1 c.courierDelay ++
    bytesOf 1 c.openingDelay ++ bytesOf 1 c.confirmWindow ++ bytesOf 1 c.rateWindow ++
    moneyBytes c.countTolerance ++ massBytes c.scaleTolerance ++ massBytes c.margin ++
    massBytes c.tareMin ++ massBytes c.tareMax ++ bytesOf 2 c.silverLow ++ bytesOf 2 c.silverHigh ++
    bytesOf 2 c.bronzeLow ++ bytesOf 2 c.bronzeHigh ++ massSumBytes c.binMassLimit ++ bytesOf 1 c.inspectRacks ++
    bytesOf 1 c.burstLength ++ nameBytes (.listOrder c.listOrder) ++ bytesOf 1 c.weekOffset ++
    Config.unlaidBytes (.activeLevels c.active)

/-- LANE STATUS (R76). -/
def LaneReport.bytes (r : LaneReport) : List Byte :=
  nameBytes (.laneState r.state) ++ reasonBytes r.reasons ++
    optionalBytes .returnReason (fun x => nameBytes (.returnReason x)) r.returnReason ++
    conditionBytes .bagLeft r.bagLeft ++ Config.unlaidBytes (.inputs r.inputs) ++
    Config.unlaidBytes (.outputs r.outputsOn.1 r.outputsOn.2.1 r.outputsOn.2.2) ++
    Config.unlaidBytes (.levels r.activeLevels.1 r.activeLevels.2.1 r.activeLevels.2.2) ++
    optionalBytes .session
      (fun x => nameBytes (.stage x.1) ++ optionalBytes .capture captureBytes x.2) r.session ++
    optionalBytes .inFlightReceipt receiptBytes r.inFlightReceipt ++ binBytes r.reservedBin ++
    optionalBytes .holder laneBytes r.holder ++ laneBytes r.lastServed ++
    Config.unlaidBytes (.waiting r.waitingA r.waitingB)

/-- TRIAL CHECK (R77, R88). -/
def AcceptanceAnswer.bytes (a : AcceptanceAnswer) : List Byte :=
  massBytes a.clampedLow ++ massBytes a.clampedHigh ++ massBytes a.lo ++ massBytes a.hi ++
    boundBytes a.lowerMargin ++ boundBytes a.upperMargin ++ nameBytes (.zone a.zone) ++
    nameBytes (.decision a.verdict.name) ++
    optionalBytes .decisionReason (fun x => nameBytes (.returnReason x)) a.verdict.reason ++
    optionalBytes .holdClass (fun x => nameBytes (.bagClass x)) a.holdClass

/-- A reservation part (R2). -/
def Reservation.bytes (r : Reservation) : List Byte :=
  nameBytes (.bagClass r.cls) ++ bytesOf 2 r.serial.toNat ++ binBytes (some r.saved)

/-- A record in full (R166). -/
def RecordReport.bytes (x : RecordReport) : List Byte :=
  nameBytes (.recState x.record.state) ++ laneBytes x.record.lane ++ bytesOf 1 x.record.depositor.val ++
    tagBytes x.record.tag ++ declarationBytes x.record.decl ++ moneyBytes x.total ++
    massBytes x.record.mass ++ massBytes x.record.lo ++ massBytes x.record.hi ++
    decidedBytes x.record.decision x.record.holdClass ++ flagBytes x.record.flags ++
    optionalBytes .receipt receiptBytes x.record.receipt ++ binBytes x.record.bin ++ binBytes x.record.seenAt ++
    optionalBytes .dropTime momentBytes x.record.dropTime ++
    optionalBytes .lastSeen (fun y => passBytes y.pass y.time) x.record.lastSeen ++
    optionalBytes .reservation Reservation.bytes x.record.reservation ++
    optionalBytes .result moneyBytes x.record.result ++ optionalBytes .place (bytesOf 1) x.place

/-- A record of a bin's contents (R47): its receipt number, or the lane of a RESERVED one; and its state. -/
def ContentReport.bytes (x : ContentReport) : List Byte :=
  optionalBytes .receipt receiptBytes x.receipt ++ optionalBytes .lane laneBytes x.lane ++
    nameBytes (.recState x.state)

/-- The missing and stray counts of a check that was not CLEAN (R36). -/
def CheckOutcome.findings : CheckOutcome → Option (Nat × Nat)
  | .clean => none
  | .found missing strays => some (missing, strays)

/-- A last check (R36). -/
def LastCheck.bytes (x : LastCheck) : List Byte :=
  optionalBytes .findings (fun y => bytesOf 1 y.1 ++ bytesOf 1 y.2) x.outcome.findings ++ passBytes x.pass x.time

/-- OVERMASS, which is reported where it applies (R47, R163). -/
def overmassBytes (overmass : Bool) : List Byte :=
  optionalBytes .overmass (fun _ : Unit => []) (if overmass then some () else none)

/-- READ BIN (R47): the bin byte serves rack and slot and bin index alike (R197). -/
def BinReport.bytes (r : BinReport) : List Byte :=
  binBytes (some r.index) ++ nameBytes (.bagClass r.rackClass) ++ nameBytes (.binClass r.cls) ++
    nameBytes (.latch (some r.latch)) ++ nameBytes (.door r.door) ++
    listBytes .contents ContentReport.bytes r.contents ++ massSumBytes r.massSum ++ overmassBytes r.overmass ++
    bytesOf 1 r.room ++ optionalBytes .lastCheck LastCheck.bytes r.lastCheck ++
    binBytes (some r.alloc.normalCursor) ++ binBytes (some r.alloc.inspectCursor) ++
    bytesOf 2 r.alloc.normalSerial.toNat ++ bytesOf 2 r.alloc.inspectSerial.toNat ++ massSumBytes r.massLimit

/-- A listing entry (R170): 14 bytes. -/
def ListEntry.bytes (x : ListEntry) : List Byte :=
  receiptBytes x.receipt ++ nameBytes (.recState x.state) ++ binBytes x.bin ++ massBytes x.mass ++ massBytes x.lo ++
    massBytes x.hi ++ decidedBytes x.decision x.holdClass ++ flagBytes x.flags

/-- What a TAKE BAG reports (R160). -/
def TakenReport.bytes (r : TakenReport) : List Byte :=
  givenReceiptBytes r.receipt ++ bytesOf 1 r.depositor.val ++ moneyBytes r.total ++
    declarationBytes r.decl ++ massBytes r.mass ++ decidedBytes r.decision r.holdClass ++ flagBytes r.flags ++
    nameBytes (.recState r.stateLeft) ++ binBytes r.binLeft

/-- What a POST RESULT reports (R164). -/
def PostedReport.bytes (r : PostedReport) : List Byte :=
  moneyBytes r.total ++ moneyBytes r.counted ++ moneyBytes r.difference ++ conditionBytes .within r.within ++
    bytesOf 1 r.depositor.val ++ bytesOf 1 r.trustBefore ++ bytesOf 1 r.trustAfter

/-- A manifest entry as a link is told it (R181); its seen-at bin on the branch link alone. -/
def ManifestEntryReport.bytes (branch : Bool) (x : ManifestEntryReport) : List Byte :=
  receiptBytes x.receipt ++ tagBytes x.tag ++ binBytes x.bin ++ nameBytes (.latch x.latch) ++
    conditionBytes .misrouteSuspect x.misrouteSuspect ++ (if branch then binBytes x.seenAt else [])

/-- The courier card: its digits, or whether there is one (R181). -/
def CardReport.bytes : CardReport → List Byte
  | .digits c => optionalBytes .card cardBytes c
  | .present p => optionalBytes .card (fun _ : Unit => []) (if p then some () else none)

/-- The report is one to the branch link, which alone is told the card's digits (R181). -/
def CardReport.toBranch : CardReport → Bool
  | .digits _ => true
  | .present _ => false

/-- READ MANIFEST (R181), in the order of R198. -/
def ManifestReport.bytes (r : ManifestReport) : List Byte :=
  bytesOf 1 r.part ++ bytesOf 1 r.parts ++ nameBytes (.manifestState r.state) ++ r.card.bytes ++
    countBytes r.released r.withdrawn r.returned ++ optionalBytes .collectionStart momentBytes r.start ++
    optionalBytes .collectionEnd momentBytes r.finish ++ bytesOf 1 r.count ++
    r.entries.flatMap (ManifestEntryReport.bytes r.card.toBranch)

/-- READ DEPOSITOR (R95). -/
def DepositorReport.bytes (r : DepositorReport) : List Byte :=
  bytesOf 1 r.index.val ++ nameBytes (.depositorState r.entry.state) ++ cardBytes r.entry.card ++
    validLevelBytes r.entry.levels ++ moneyBytes r.entry.perBag ++ bytesOf 1 r.entry.dropLimit ++
    optionalBytes .windowStart momentBytes r.entry.windowStart ++ bytesOf 1 r.entry.windowCount ++
    conditionBytes .running r.running ++ optionalBytes .minutesLeft (bytesOf 1) r.minutesLeft ++
    bytesOf 1 r.entry.trust ++ bytesOf 1 r.entry.liveCount

/-- READ POWER (R208). -/
def PowerReport.bytes (r : PowerReport) : List Byte :=
  nameBytes (.power r.state.name) ++ optionalBytes .phase (fun x => nameBytes (.phase x)) r.state.phaseName ++
    optionalBytes .rack (fun k : RackIdx => bytesOf 1 k.val) r.state.passRack ++
    conditionBytes .batteryLow r.batteryLow ++ nameBytes (.lastStart r.lastStart)

/-! ### The results -/

/-- The bytes that follow OK (R196): nothing for a request without a result. -/
def Result.bytes : Result → List Byte
  | .nothing => []
  | .notices set cause => [set] ++ (cause.map LastStart.value).toList
  | .level r => r.bytes
  | .rack r => r.bytes
  | .sweep r => r.bytes
  | .windows slots weekDay minute allowance =>
    slots.flatMap (optionalBytes .window Window.bytes) ++ bytesOf 1 weekDay ++ bytesOf 2 minute ++ levelBytes allowance
  | .config c => c.bytes
  | .clock reading isSet weekDay minute weekOffset =>
    momentBytes reading ++ conditionBytes .clockSet isSet ++ bytesOf 1 weekDay ++ bytesOf 2 minute ++
      bytesOf 1 weekOffset
  | .power r => r.bytes
  | .laneStatus r => r.bytes
  | .reasons c => reasonBytes c
  | .inputs i => Config.unlaidBytes (.inputs i)
  | .trial a => a.bytes
  | .requested branchRequest target effective raise =>
    levelBytes branchRequest ++ levelBytes target ++ levelBytes effective ++ nameBytes (.raise raise)
  | .confirmed effective => levelBytes effective
  | .ceiling top target effective => levelBytes top ++ levelBytes target ++ levelBytes effective
  | .selected chosen holdEnd => bytesOf 1 chosen.val ++ momentBytes holdEnd
  | .strays part parts count incomplete items =>
    bytesOf 1 part ++ bytesOf 1 parts ++ bytesOf 1 count ++ conditionBytes .incomplete incomplete ++
      items.flatMap StrayEntry.bytes
  | .straysCleared removed left => bytesOf 1 removed ++ bytesOf 1 left
  | .record r live => r.bytes ++ bytesOf 2 live
  | .bin r => r.bytes
  | .reservation part parts _ r live =>
    bytesOf 1 part ++ bytesOf 1 parts ++ bytesOf 2 live ++
      optionalBytes .reserved (fun x => x.1.bytes ++ conditionBytes .powerClosed x.2) r
  | .burst items more next live =>
    listBytes .burst ListEntry.bytes items ++ conditionBytes .more more ++
      givenReceiptBytes next ++ bytesOf 2 live
  | .taken r => r.bytes
  | .putBack receipt placed room massSum overmass =>
    givenReceiptBytes receipt ++ binBytes (some placed) ++ bytesOf 1 room ++ massSumBytes massSum ++
      overmassBytes overmass
  | .posted r => r.bytes
  | .retired live depositorLive => bytesOf 2 live ++ bytesOf 1 depositorLive
  | .entries n => bytesOf 1 n
  | .counts released withdrawn returned => countBytes released withdrawn returned
  | .manifest r => r.bytes
  | .loggedIn listed effective raise => bytesOf 1 listed ++ levelBytes effective ++ nameBytes (.raise raise)
  | .scanned receipt freed left released =>
    givenReceiptBytes receipt ++ binBytes freed ++ bytesOf 1 left ++ bytesOf 1 released
  | .loggedOut released withdrawn returned effective =>
    countBytes released withdrawn returned ++ levelBytes effective
  | .enrolled index => bytesOf 1 index.val
  | .depositor r => r.bytes
  | .configSet defaulted => bytesOf 1 defaulted.length ++ defaulted.flatMap (bytesOf 1)
  | .clockSet reading => momentBytes reading

/-- The values of the statuses (R196). -/
def Status.value : Status → Byte
  | .ok => 0x00
  | .busy => 0x01
  | .state => 0x02
  | .level => 0x03
  | .unknown => 0x04
  | .full => 0x05
  | .duplicate => 0x06
  | .range => 0x07
  | .notListed => 0x08
  | .unknownRequest => 0x09

/-- A reply's payload (R196): the status, then, after OK, the result; at most 120 bytes (R198). -/
def Reply.payload (r : Reply) : List Byte :=
  match r.answer with
  | .ok result => Status.ok.value :: result.bytes.take 119
  | .refuse why => [why.value]

end Sys2Proof.Machine
end

