-- ==== Sys2Proof/Machine/LinkOps.lean ====
section
/-!
DEFINITION. The shared operations of the Link Interface: the check and the layout of frames, the request codes and
the links that carry them, the forms of payloads, and the taking and answering of a request (chapter 11).
-/
namespace Sys2Proof.Machine

/-! ### The check and the frame (R194, Frame layout) -/

/-- `n` shifts of the check register with generator polynomial 0x1021 (R194). -/
def crcShift : Nat → BitVec 16 → BitVec 16
  | 0, r => r
  | n + 1, r => crcShift n (if r.msb then (r <<< 1) ^^^ 0x1021 else r <<< 1)

/-- One byte fed into the check register, most significant bit first (R194). -/
def crcByte (r : BitVec 16) (b : Byte) : BitVec 16 := crcShift 8 (r ^^^ (b.setWidth 16 <<< 8))

/-- The check over bytes in the order they are sent (R194). -/
def crc (bytes : List Byte) : BitVec 16 := bytes.foldl crcByte 0xFFFF

/-- Bytes sent high byte first, as a number. -/
def numberOf (bytes : List Byte) : Nat := bytes.foldl (fun n b => n * 256 + b.toNat) 0

/-- A frame (Frame layout): start, length, code, payload and check. -/
def frame (code : Byte) (payload : List Byte) : List Byte :=
  let body := BitVec.ofNat 8 payload.length :: code :: payload
  0x7E :: body ++ bytesOf 2 (crc body).toNat

/-- A reply's frame as the part sends it (R194, R196). -/
def Reply.frame (r : Reply) : List Byte := Machine.frame r.code r.payload

/-! ### Request codes (R195, Request codes) -/

/-- The code is a request code carried on the link (Request codes). -/
def carries (l : Link) (code : Nat) : Bool :=
  match l with
  | .branch =>
    (0x01 ≤ code && code ≤ 0x08) || (0x10 ≤ code && code ≤ 0x16) || (0x20 ≤ code && code ≤ 0x21) ||
      (0x30 ≤ code && code ≤ 0x38) || (0x40 ≤ code && code ≤ 0x49) || (0x50 ≤ code && code ≤ 0x56) ||
      (0x60 ≤ code && code ≤ 0x65) || (0x70 ≤ code && code ≤ 0x71)
  | .security => (0x01 ≤ code && code ≤ 0x08) || (0x22 ≤ code && code ≤ 0x26)
  | .courier =>
    (0x01 ≤ code && code ≤ 0x03) || (0x20 ≤ code && code ≤ 0x21) || (0x30 ≤ code && code ≤ 0x33) ||
      (0x56 ≤ code && code ≤ 0x59)

/-- The link and the code of a request; none for a command that is no request (Request codes). -/
def requestOf : Instr → Option (Link × Nat)
  | .readNotices l => some (l, 0x01)
  | .readLevel l => some (l, 0x02)
  | .readRack l _ => some (l, 0x03)
  | .readSweep l => some (l, 0x04)
  | .readWindows l => some (l, 0x05)
  | .readConfig l => some (l, 0x06)
  | .readClock l => some (l, 0x07)
  | .readPower l => some (l, 0x08)
  | .laneStatus l _ => some (l, 0x10)
  | .laneClose l _ => some (l, 0x11)
  | .laneOpen l _ => some (l, 0x12)
  | .laneService l _ => some (l, 0x13)
  | .laneServiceEnd l _ => some (l, 0x14)
  | .laneDrive l _ _ _ => some (l, 0x15)
  | .trialCheck l _ _ _ _ _ => some (l, 0x16)
  | .requestLevel l _ => some (l, 0x20)
  | .confirm l => some (l, 0x21)
  | .setCeiling l _ => some (l, 0x22)
  | .raiseDuress l => some (l, 0x23)
  | .clearDuress l => some (l, 0x24)
  | .setWindow l _ _ _ _ _ => some (l, 0x25)
  | .clearWindow l _ => some (l, 0x26)
  | .selectRack l _ => some (l, 0x30)
  | .unlatchBin l _ => some (l, 0x31)
  | .relatchBin l _ => some (l, 0x32)
  | .releaseRack l => some (l, 0x33)
  | .withdrawBin l _ => some (l, 0x34)
  | .restoreBin l _ => some (l, 0x35)
  | .rackInventory l _ => some (l, 0x36)
  | .readStrays l _ => some (l, 0x37)
  | .clearStrays l _ => some (l, 0x38)
  | .readRecord l _ => some (l, 0x40)
  | .readBin l _ => some (l, 0x41)
  | .readReservations l _ => some (l, 0x42)
  | .list l _ _ => some (l, 0x43)
  | .listNext l => some (l, 0x44)
  | .stopList l => some (l, 0x45)
  | .takeBag l _ => some (l, 0x46)
  | .putBack l _ _ => some (l, 0x47)
  | .postResult l _ _ => some (l, 0x48)
  | .retire l _ => some (l, 0x49)
  | .openManifest l _ => some (l, 0x50)
  | .add l _ => some (l, 0x51)
  | .removeManifestEntry l _ => some (l, 0x52)
  | .sealManifest l => some (l, 0x53)
  | .cancel l => some (l, 0x54)
  | .closeManifest l => some (l, 0x55)
  | .readManifest l _ => some (l, 0x56)
  | .login l _ => some (l, 0x57)
  | .scan l _ => some (l, 0x58)
  | .logout l => some (l, 0x59)
  | .enrol l _ _ => some (l, 0x60)
  | .edit l _ _ _ => some (l, 0x61)
  | .suspend l _ => some (l, 0x62)
  | .restoreDepositor l _ => some (l, 0x63)
  | .removeDepositor l _ => some (l, 0x64)
  | .readDepositor l _ => some (l, 0x65)
  | .setConfig l _ => some (l, 0x70)
  | .setClock l _ _ => some (l, 0x71)
  | .unknownRequest _ _ => none
  | .frameDiscard _ => none
  | .linkGapTimeout _ => none
  | .replySent _ => none
  | .linkReset _ => none
  | .cardRead _ _ => none
  | .cardRefusalExpiry _ => none
  | .keyPress _ _ => none
  | .keyTimerExpiry _ => none
  | .laneInputChange _ _ _ => none
  | .lockConfirmTimeout _ => none
  | .loadTimeout _ => none
  | .tagRead _ _ => none
  | .scaleSample _ _ => none
  | .weighTimeout _ => none
  | .positioningExpiry _ _ => none
  | .pulseExpiry _ _ => none
  | .entrySensorTrip _ => none
  | .arrivalReadComplete _ _ _ => none
  | .routeTimeout _ => none
  | .returnWaitExpiry _ => none
  | .doorChange _ _ => none
  | .latchReleased _ => none
  | .releaseTimeout _ => none
  | .latchEngaged _ => none
  | .engageTimeout _ => none
  | .pocketReadComplete _ _ => none
  | .holdExpiry => none
  | .stepTimerExpiry => none
  | .rackReadComplete _ => none
  | .rackOverdue _ => none
  | .newMinute => none
  | .raiseDelayExpiry => none
  | .confirmLapse => none
  | .listIdleExpiry => none
  | .mainsLoss => none
  | .mainsReturn _ _ => none
  | .batteryLow => none
  | .coldStart _ _ _ _ => none
  | .characterReceived _ _ _ => none
  | .lineConditionChange _ _ => none

/-! ### The forms of payloads (R195, R197) -/

/-- The form with no fields. -/
def formNone (p : List Byte) (i : Instr) : Option Instr := if p = [] then some i else none

/-- The form with one byte. -/
def formByte (p : List Byte) (f : Byte → Option Instr) : Option Instr :=
  match p with
  | [b] => f b
  | _ => none

/-- The form of a request answered in parts: nothing, or a part number (R198). -/
def formPart (p : List Byte) (f : Option Byte → Instr) : Option Instr :=
  match p with
  | [] => some (f none)
  | [b] => some (f (some b))
  | _ => none

/-- The form of one field of `n` bytes. -/
def formField (n : Nat) (p : List Byte) (f : Nat → Instr) : Option Instr :=
  if p.length = n then some (f (numberOf p)) else none

/-- A lane byte: 0 lane A, 1 lane B (DEDUCED, log entry 5). -/
def laneOf (b : Byte) : Option LaneId :=
  match b.toNat with
  | 0 => some .a
  | 1 => some .b
  | _ => none

/-- An output byte, in the order lock, tip, return (DEDUCED, log entry 5). -/
def outputOf (b : Byte) : Option Actuator :=
  match b.toNat with
  | 0 => some .lock
  | 1 => some .tip
  | 2 => some .ret
  | _ => none

/-- The form of a request that names a lane. -/
def formLane (p : List Byte) (f : LaneId → Instr) : Option Instr := formByte p (fun b => (laneOf b).map f)

/-- The form of LANE DRIVE: lane, output and length. -/
def formDrive (l : Link) (p : List Byte) : Option Instr :=
  match p with
  | [a, o, hi, lo] =>
    match laneOf a, outputOf o with
    | some lane, some out => some (.laneDrive l lane out (BitVec.ofNat 16 (numberOf [hi, lo])))
    | _, _ => none
  | _ => none

/-- The form of SET WINDOW: slot, days, start, end and level. -/
def formWindow (l : Link) (p : List Byte) : Option Instr :=
  match p with
  | [slot, days, s1, s0, e1, e0, level] =>
    some (.setWindow l slot days (BitVec.ofNat 16 (numberOf [s1, s0])) (BitVec.ofNat 16 (numberOf [e1, e0])) level)
  | _ => none

/-- The form of a request with two fields of `m` and `n` bytes. -/
def formTwo (m n : Nat) (p : List Byte) (f : Nat → Nat → Instr) : Option Instr :=
  if p.length = m + n then some (f (numberOf (p.take m)) (numberOf (p.drop m))) else none

/-- The form of READ RECORD (R158): a tag serial or a receipt number. -/
def formRecord (l : Link) (p : List Byte) : Option Instr :=
  if p.length = 5 then some (.readRecord l (.tag (BitVec.ofNat 40 (numberOf p))))
  else if p.length = 3 then some (.readRecord l (.receipt (BitVec.ofNat 24 (numberOf p))))
  else none

/-- The form of READ DEPOSITOR (R95): an index or a card number. -/
def formDepositor (l : Link) (p : List Byte) : Option Instr :=
  if p.length = 1 then some (.readDepositor l (.index (BitVec.ofNat 8 (numberOf p))))
  else if p.length = 6 then some (.readDepositor l (.card (BitVec.ofNat 48 (numberOf p))))
  else none

/-- The parts of ENROL and EDIT that are not the card, where they are carried (R91, R92, R197). -/
def termBytes (t : DepositorTerms) : List Byte :=
  t.levels.toList ++ (t.perBag.map (fun v => bytesOf 4 v.toNat)).getD [] ++ t.drops.toList

/-- A request with optional parts, as its payload must show it (R195, R197): the bytes of the fields carried, in the
order in which the owning rule lists them, and the least and the most number of other bytes, which are the values that
no rule numbers and at most one byte for each optional part to tell whether it is carried (log entry 3). None for any
other command. -/
def optionalShape : Instr → Option (List Byte × Nat × Nat)
  | .trialCheck _ notes silver bronze capture source =>
    some (bytesOf 4 notes.toNat ++ bytesOf 4 silver.toNat ++ bytesOf 4 bronze.toNat ++ bytesOf 3 capture.toNat ++
      source.trust.toList ++ source.index.toList, 0, 2)
  | .clearStrays _ count => some (count.toList, 0, 1)
  | .list _ start filter =>
    let named := filter.holdClass.toList.length + filter.result.toList.length
    some (bytesOf 3 start.toNat ++ bytesOf 2 filter.states.toNat ++ filter.flags.toList ++ filter.depositor.toList,
      named, named + 4)
  | .enrol _ card terms => some (bytesOf 6 card.toNat ++ termBytes terms, 0, 3)
  | .edit _ index card terms =>
    some (index :: ((card.map (fun c => bytesOf 6 c.toNat)).getD [] ++ termBytes terms), 0, 4)
  | _ => none

/-- A payload can spell the request: it carries the request's fields in the sizes of R197 and no more than their layout
leaves open. -/
def fitsForm (i : Instr) (p : List Byte) : Bool :=
  match optionalShape i with
  | some (known, least, most) =>
    known.isSublist p && known.length + least ≤ p.length && p.length ≤ known.length + most
  | none => false

/-- The form of a request whose optional parts the manual does not lay out: what Config.optionalForm reads, when it is
a request of this code on this link whose fields the payload carries in their sizes (log entry 3). -/
def formOptional (l : Link) (code : Nat) (p : List Byte) : Option Instr :=
  match Config.optionalForm l code p with
  | some i => if requestOf i = some (l, code) ∧ fitsForm i p then some i else none
  | none => none

/-- The order of a listing that a value spells (R203, field 16), by the byte that stands for it in a reply; none for
any other byte (log entry 4). -/
def listOrderOf (v : List Byte) : Option ListOrder :=
  if v = nameBytes (.listOrder .ascending) then some .ascending
  else if v = nameBytes (.listOrder .wrap) then some .wrap
  else none

/-- The six levels that a value of field 18 spells (R203), whose layout no rule gives: a free reading of each (log
entry 3). -/
def carriedLevels (v : List Byte) : CarriedLevels :=
  { aLock := Config.carriedLevel .a .lock v, aTip := Config.carriedLevel .a .tip v,
    aReturn := Config.carriedLevel .a .ret v, bLock := Config.carriedLevel .b .lock v,
    bTip := Config.carriedLevel .b .tip v, bReturn := Config.carriedLevel .b .ret v }

/-- A field of SET CONFIG by its number in the table of R203: the bytes of its value in the size of R197, a pair's low
before its high, and the field they spell. None for a number that names no field. -/
def configField (number : Nat) : Option (Nat × (List Byte → ConfigWrite)) :=
  match number with
  | 1 => some (1, fun v => .verificationInterval (BitVec.ofNat 8 (numberOf v)))
  | 2 => some (1, fun v => .rackHoldMax (BitVec.ofNat 8 (numberOf v)))
  | 3 => some (1, fun v => .courierDelay (BitVec.ofNat 8 (numberOf v)))
  | 4 => some (1, fun v => .openingDelay (BitVec.ofNat 8 (numberOf v)))
  | 5 => some (1, fun v => .confirmWindow (BitVec.ofNat 8 (numberOf v)))
  | 6 => some (1, fun v => .rateWindow (BitVec.ofNat 8 (numberOf v)))
  | 7 => some (4, fun v => .countTolerance (BitVec.ofNat 32 (numberOf v)))
  | 8 => some (3, fun v => .scaleTolerance (BitVec.ofNat 24 (numberOf v)))
  | 9 => some (3, fun v => .margin (BitVec.ofNat 24 (numberOf v)))
  | 10 => some (6, fun v =>
      .tareBand (BitVec.ofNat 24 (numberOf (v.take 3))) (BitVec.ofNat 24 (numberOf (v.drop 3))))
  | 11 => some (4, fun v =>
      .silverDensity (BitVec.ofNat 16 (numberOf (v.take 2))) (BitVec.ofNat 16 (numberOf (v.drop 2))))
  | 12 => some (4, fun v =>
      .bronzeDensity (BitVec.ofNat 16 (numberOf (v.take 2))) (BitVec.ofNat 16 (numberOf (v.drop 2))))
  | 13 => some (3, fun v => .binMassLimit (BitVec.ofNat 24 (numberOf v)))
  | 14 => some (1, fun v => .inspectRacks (BitVec.ofNat 8 (numberOf v)))
  | 15 => some (1, fun v => .burstLength (BitVec.ofNat 8 (numberOf v)))
  | 16 => some (1, fun v => .listOrder (listOrderOf v))
  | 17 => some (1, fun v => .weekOffset (BitVec.ofNat 8 (numberOf v)))
  | 18 => some (Config.levelsSize.val + 1, fun v => .activeLevels (carriedLevels v))
  | _ => none

/-- The fields that the payload of a SET CONFIG carries, one after another, each its number and then its value (R204);
none where a number names no field or a value is cut short. Every field takes a byte, so the payload's length is fuel
enough. -/
def configFields : Nat → List Byte → Option (List ConfigWrite)
  | _, [] => some []
  | 0, _ :: _ => none
  | fuel + 1, number :: rest =>
    match configField number.toNat with
    | none => none
    | some (size, read) =>
      if rest.length < size then none
      else (configFields fuel (rest.drop size)).map (fun writes => read (rest.take size) :: writes)

/-- The form of SET CONFIG (R195, R204): one field or more. -/
def formConfig (l : Link) (p : List Byte) : Option Instr :=
  if p = [] then none else (configFields p.length p).map (.setConfig l)

/-- The request that a payload spells under a code; none when it is of no form the code takes (R195, R197). Fields
stand in the order in which their owners list them (DEDUCED, log entry 5). -/
def parseRequest (l : Link) (code : Nat) (p : List Byte) : Option Instr :=
  match code with
  | 0x01 => formNone p (.readNotices l)
  | 0x02 => formNone p (.readLevel l)
  | 0x03 => formByte p (fun b => some (.readRack l b))
  | 0x04 => formNone p (.readSweep l)
  | 0x05 => formNone p (.readWindows l)
  | 0x06 => formNone p (.readConfig l)
  | 0x07 => formNone p (.readClock l)
  | 0x08 => formNone p (.readPower l)
  | 0x10 => formLane p (.laneStatus l)
  | 0x11 => formLane p (.laneClose l)
  | 0x12 => formLane p (.laneOpen l)
  | 0x13 => formLane p (.laneService l)
  | 0x14 => formLane p (.laneServiceEnd l)
  | 0x15 => formDrive l p
  | 0x20 => formByte p (fun b => some (.requestLevel l b))
  | 0x21 => formNone p (.confirm l)
  | 0x22 => formByte p (fun b => some (.setCeiling l b))
  | 0x23 => formNone p (.raiseDuress l)
  | 0x24 => formNone p (.clearDuress l)
  | 0x25 => formWindow l p
  | 0x26 => formByte p (fun b => some (.clearWindow l b))
  | 0x30 => formByte p (fun b => some (.selectRack l b))
  | 0x31 => formByte p (fun b => some (.unlatchBin l b))
  | 0x32 => formByte p (fun b => some (.relatchBin l b))
  | 0x33 => formNone p (.releaseRack l)
  | 0x34 => formByte p (fun b => some (.withdrawBin l b))
  | 0x35 => formByte p (fun b => some (.restoreBin l b))
  | 0x36 => formByte p (fun b => some (.rackInventory l b))
  | 0x37 => formPart p (.readStrays l)
  | 0x40 => formRecord l p
  | 0x41 => formByte p (fun b => some (.readBin l b))
  | 0x42 => formPart p (.readReservations l)
  | 0x44 => formNone p (.listNext l)
  | 0x45 => formNone p (.stopList l)
  | 0x46 => formField 5 p (fun n => .takeBag l (BitVec.ofNat 40 n))
  | 0x47 => formTwo 5 1 p (fun t b => .putBack l (BitVec.ofNat 40 t) (BitVec.ofNat 8 b))
  | 0x48 => formTwo 3 4 p (fun n v => .postResult l (BitVec.ofNat 24 n) (BitVec.ofNat 32 v))
  | 0x49 => formField 3 p (fun n => .retire l (BitVec.ofNat 24 n))
  | 0x50 => formField 6 p (fun n => .openManifest l (BitVec.ofNat 48 n))
  | 0x51 => formField 3 p (fun n => .add l (BitVec.ofNat 24 n))
  | 0x52 => formField 3 p (fun n => .removeManifestEntry l (BitVec.ofNat 24 n))
  | 0x53 => formNone p (.sealManifest l)
  | 0x54 => formNone p (.cancel l)
  | 0x55 => formNone p (.closeManifest l)
  | 0x56 => formPart p (.readManifest l)
  | 0x57 => formField 6 p (fun n => .login l (BitVec.ofNat 48 n))
  | 0x58 => formField 5 p (fun n => .scan l (BitVec.ofNat 40 n))
  | 0x59 => formNone p (.logout l)
  | 0x62 => formByte p (fun b => some (.suspend l b))
  | 0x63 => formByte p (fun b => some (.restoreDepositor l b))
  | 0x64 => formByte p (fun b => some (.removeDepositor l b))
  | 0x65 => formDepositor l p
  | 0x70 => formConfig l p
  | 0x71 => formTwo 2 3 p (fun d n => .setClock l (BitVec.ofNat 16 d) (BitVec.ofNat 24 n))
  | _ => formOptional l code p

/-- An output byte's value (log entry 5). -/
def outputByte : Actuator → Byte
  | .lock => 0
  | .tip => 1
  | .ret => 2

/-- A part number carried or left out (R198). -/
def partBytes (part : Option Byte) : List Byte := part.toList

/-- The payload of a record key (R158). -/
def keyBytes : RecordKey → List Byte
  | .tag packed => bytesOf 5 packed.toNat
  | .receipt n => bytesOf 3 n.toNat

/-- The payload of a depositor key (R95). -/
def depositorKeyBytes : DepositorKey → List Byte
  | .index i => [i]
  | .card packed => bytesOf 6 packed.toNat

/-- A field of SET CONFIG as a master sends it (R197, R203): its number, then its value; none for the order of field 16
and the levels of field 18, whose values no rule numbers or lays out. -/
def configFieldBytes : ConfigWrite → Option (List Byte)
  | .verificationInterval v => some [1, v]
  | .rackHoldMax v => some [2, v]
  | .courierDelay v => some [3, v]
  | .openingDelay v => some [4, v]
  | .confirmWindow v => some [5, v]
  | .rateWindow v => some [6, v]
  | .countTolerance v => some (7 :: bytesOf 4 v.toNat)
  | .scaleTolerance v => some (8 :: bytesOf 3 v.toNat)
  | .margin v => some (9 :: bytesOf 3 v.toNat)
  | .tareBand low high => some (10 :: (bytesOf 3 low.toNat ++ bytesOf 3 high.toNat))
  | .silverDensity low high => some (11 :: (bytesOf 2 low.toNat ++ bytesOf 2 high.toNat))
  | .bronzeDensity low high => some (12 :: (bytesOf 2 low.toNat ++ bytesOf 2 high.toNat))
  | .binMassLimit v => some (13 :: bytesOf 3 v.toNat)
  | .inspectRacks v => some [14, v]
  | .burstLength v => some [15, v]
  | .listOrder _ => none
  | .weekOffset v => some [17, v]
  | .activeLevels _ => none

/-- The bytes of the fields of a SET CONFIG, one after another (R204). -/
def configBytes : List ConfigWrite → Option (List Byte)
  | [] => some []
  | w :: rest =>
    match configFieldBytes w, configBytes rest with
    | some field, some fields => some (field ++ fields)
    | _, _ => none

/-- The payload of a SET CONFIG (R204): one field or more, and no more than a frame holds. -/
def configPayload (writes : List ConfigWrite) : Option (List Byte) :=
  match configBytes writes with
  | some p => if p = [] ∨ 120 < p.length then none else some p
  | none => none

/-- The payload with which a master sends a request whose form the manual lays out (R197); none for a request with
optional parts, for a SET CONFIG with a value that no rule lays out, and for a command that is no request. -/
def payloadOf : Instr → Option (List Byte)
  | .readNotices _ => some []
  | .readLevel _ => some []
  | .readRack _ b => some [b]
  | .readSweep _ => some []
  | .readWindows _ => some []
  | .readConfig _ => some []
  | .readClock _ => some []
  | .readPower _ => some []
  | .laneStatus _ x => some [laneByte x]
  | .laneClose _ x => some [laneByte x]
  | .laneOpen _ x => some [laneByte x]
  | .laneService _ x => some [laneByte x]
  | .laneServiceEnd _ x => some [laneByte x]
  | .laneDrive _ x o n => some (laneByte x :: outputByte o :: bytesOf 2 n.toNat)
  | .requestLevel _ b => some [b]
  | .confirm _ => some []
  | .setCeiling _ b => some [b]
  | .raiseDuress _ => some []
  | .clearDuress _ => some []
  | .setWindow _ slot days a b level => some (slot :: days :: (bytesOf 2 a.toNat ++ bytesOf 2 b.toNat ++ [level]))
  | .clearWindow _ b => some [b]
  | .selectRack _ b => some [b]
  | .unlatchBin _ b => some [b]
  | .relatchBin _ b => some [b]
  | .releaseRack _ => some []
  | .withdrawBin _ b => some [b]
  | .restoreBin _ b => some [b]
  | .rackInventory _ b => some [b]
  | .readStrays _ p => some (partBytes p)
  | .readRecord _ k => some (keyBytes k)
  | .readBin _ b => some [b]
  | .readReservations _ p => some (partBytes p)
  | .listNext _ => some []
  | .stopList _ => some []
  | .takeBag _ t => some (bytesOf 5 t.toNat)
  | .putBack _ t i => some (bytesOf 5 t.toNat ++ [i])
  | .postResult _ n v => some (bytesOf 3 n.toNat ++ bytesOf 4 v.toNat)
  | .retire _ n => some (bytesOf 3 n.toNat)
  | .openManifest _ c => some (bytesOf 6 c.toNat)
  | .add _ n => some (bytesOf 3 n.toNat)
  | .removeManifestEntry _ n => some (bytesOf 3 n.toNat)
  | .sealManifest _ => some []
  | .cancel _ => some []
  | .closeManifest _ => some []
  | .readManifest _ p => some (partBytes p)
  | .login _ c => some (bytesOf 6 c.toNat)
  | .scan _ t => some (bytesOf 5 t.toNat)
  | .logout _ => some []
  | .suspend _ b => some [b]
  | .restoreDepositor _ b => some [b]
  | .removeDepositor _ b => some [b]
  | .readDepositor _ k => some (depositorKeyBytes k)
  | .setClock _ d n => some (bytesOf 2 d.toNat ++ bytesOf 3 n.toNat)
  | .trialCheck _ _ _ _ _ _ => none
  | .clearStrays _ _ => none
  | .list _ _ _ => none
  | .enrol _ _ _ => none
  | .edit _ _ _ _ => none
  | .setConfig _ writes => configPayload writes
  | .unknownRequest _ _ => none
  | .frameDiscard _ => none
  | .linkGapTimeout _ => none
  | .replySent _ => none
  | .linkReset _ => none
  | .cardRead _ _ => none
  | .cardRefusalExpiry _ => none
  | .keyPress _ _ => none
  | .keyTimerExpiry _ => none
  | .laneInputChange _ _ _ => none
  | .lockConfirmTimeout _ => none
  | .loadTimeout _ => none
  | .tagRead _ _ => none
  | .scaleSample _ _ => none
  | .weighTimeout _ => none
  | .positioningExpiry _ _ => none
  | .pulseExpiry _ _ => none
  | .entrySensorTrip _ => none
  | .arrivalReadComplete _ _ _ => none
  | .routeTimeout _ => none
  | .returnWaitExpiry _ => none
  | .doorChange _ _ => none
  | .latchReleased _ => none
  | .releaseTimeout _ => none
  | .latchEngaged _ => none
  | .engageTimeout _ => none
  | .pocketReadComplete _ _ => none
  | .holdExpiry => none
  | .stepTimerExpiry => none
  | .rackReadComplete _ => none
  | .rackOverdue _ => none
  | .newMinute => none
  | .raiseDelayExpiry => none
  | .confirmLapse => none
  | .listIdleExpiry => none
  | .mainsLoss => none
  | .mainsReturn _ _ => none
  | .batteryLow => none
  | .coldStart _ _ _ _ => none
  | .characterReceived _ _ _ => none
  | .lineConditionChange _ _ => none

/-! ### Taking and answering (R195) -/

/-- An assembly in HUNT, as an event at a moment leaves it. R191 keeps the moment the last character ended beside the
phase. Where a character ends in the event (taken in HUNT or as the last of a frame, or discarded) that moment is the
event's. Where none does (a gap, FRAME DISCARD, a link reset, the line's return to mark, a stop, a start) no rule says
what it holds in HUNT, and the model has the event's moment there too (DESIGN CHOICE, log entry 61). -/
def huntAt (now : Nat) : Assembly := { phase := .hunt, bytes := [], lastEnd := now }

/-- A request can be taken on the link: it runs, its exchange is IDLE, and its line is at mark (R195, R199, R202). -/
def State.canTake (s : State) (l : Link) : Bool :=
  s.linkRuns l && (s.link l).exchange == .idle && (s.link l).line == .mark

/-- A reply begins (R195): the exchange is ANSWERING and the assembly in HUNT, the last character of the request's frame
having ended in this event. -/
def State.reply (s : State) (l : Link) (code : Nat) (a : Answer) : State :=
  s.setLink l { s.link l with
    assembly := huntAt s.now, exchange := .answering { code := BitVec.ofNat 8 code, answer := a } }

/-- The taking of a request (R195): not taken where the link does not receive, UNKNOWN REQUEST where the link does not
carry the code, and otherwise handed to its owner, whose answer goes back. -/
def State.answerRequest (s : State) (l : Link) (code : Nat) (owner : State → State × Answer) : Out :=
  if s.canTake l then
    if carries l code then
      match owner s with
      | (t, a) => .next (t.reply l code a)
    else .next (s.reply l code (.refuse .unknownRequest))
  else .next s

/-- An owner's answer that changes nothing. -/
def State.refused (s : State) (why : Status) : State × Answer := (s, .refuse why)

/-- An owner's answer that carries no result but OK. -/
def State.ok (s : State) : State × Answer := (s, .ok .nothing)

/-- An owner's answer with a result. -/
def State.okWith (s : State) (r : Result) : State × Answer := (s, .ok r)

/-- The number of parts of a list (R198): at least 1. -/
def partCount (items perPart : Nat) : Nat := max 1 ((items + perPart - 1) / perPart)

/-- The part a request asks for: part 0 when it carries none (R198). -/
def partAsked (part : Option Byte) : Nat := (part.map (fun b => b.toNat)).getD 0

end Sys2Proof.Machine
end

