-- ==== Sys2Proof/Machine/BinEvents.lean ====
section
/-!
DEFINITION. The meanings of the events of bins and racks: doors, latches, pocket reads and the hold timer (R125, R126,
R129, R131, R133, R135, R137).
-/
namespace Sys2Proof.Machine

/-! ### Doors (R125, R126, R133, R135) -/

/-- The bin's rack is the selected one and the level conditions permit the bin to the selection's owner (R120). -/
def State.permittedNow (s : State) (i : BinIdx) : Bool :=
  match s.selection with
  | some x => x.rack == rackOf i && s.permits x.owner (s.bin i)
  | none => false

/-- An engage stopped by the door (R133): a FAULT bin stays in FAULT, an UNLATCHED bin of a RELATCH BIN that is still
permitted waits for its door, every other becomes UNSECURED. -/
def State.stopEngage (s : State) (i : BinIdx) (byRelatch : Bool) : State :=
  match (s.bin i).latch with
  | .fault => s.modBin i (fun b => { b with op := .idle })
  | .unlatched =>
    if byRelatch && s.permittedNow i then s.modBin i (fun b => { b with op := .waitingForDoor s.now })
    else s.makeUnsecured i
  | .latched => s.makeUnsecured i
  | .unsecured => s.makeUnsecured i

/-- What a door change means for a bin (R125). -/
inductive DoorAction where
  | fieldOnly
  | openedPastLatch
  | stopEngage (byRelatch : Bool)
  | engage (byRelatch : Bool)
  | notPossible
  deriving DecidableEq, Repr

/-- The door table of R125: latch state, operation, and the position the door takes. A row that is marked 'not
possible', and a state and operation that no row names, cannot arise. -/
def doorAction (latch : LatchState) (op : LatchOp) (door : Door) : DoorAction :=
  match latch, op, door with
  | _, .releasing _, _ => .fieldOnly
  | .latched, .idle, .opened => .openedPastLatch
  | .latched, .idle, .closed => .notPossible
  | .unlatched, .idle, _ => .fieldOnly
  | .fault, .idle, _ => .fieldOnly
  | .unsecured, .idle, .opened => .fieldOnly
  | .unsecured, .idle, .closed => .engage false
  | .unlatched, .engaging _ byRelatch, .opened => .stopEngage byRelatch
  | .unsecured, .engaging _ byRelatch, .opened => .stopEngage byRelatch
  | .fault, .engaging _ byRelatch, .opened => .stopEngage byRelatch
  | .latched, .engaging _ _, .opened => .notPossible
  | _, .engaging _ _, .closed => .notPossible
  | .unlatched, .waitingForDoor _, .closed => .engage true
  | .unlatched, .waitingForDoor _, .opened => .notPossible
  | .latched, .waitingForDoor _, _ => .notPossible
  | .unsecured, .waitingForDoor _, _ => .notPossible
  | .fault, .waitingForDoor _, _ => .notPossible

/-- The pocket door field takes a position, both filter samples agreeing on it (R125). -/
def State.setDoor (s : State) (i : BinIdx) (d : Door) : State :=
  s.modBin i (fun b => { b with door := d, doorFilter := (d, d) })

/-- A door change taken as an event of its bin (R125). -/
def State.changeDoor (s : State) (i : BinIdx) (d : Door) : Out :=
  match doorAction (s.bin i).latch (s.bin i).op d with
  | .fieldOnly => .next (s.setDoor i d)
  | .openedPastLatch => .next ((s.setDoor i d).makeUnsecured i)
  | .stopEngage byRelatch => .next ((s.setDoor i d).stopEngage i byRelatch).endIfDone
  | .engage byRelatch => .next ((s.setDoor i d).beginEngage i byRelatch)
  | .notPossible => .fault .impossibleDoorEvent

/-- DOOR CHANGE (R125); a position the field already shows is no change, and no door is sampled in RETENTION
(R143). -/
def execDoorChange (bin : BinIdx) (door : Door) (s : State) : Out :=
  if s.inRetention ∨ (s.bin bin).door = door then .next s else s.changeDoor bin door

/-! ### Latches (R131, R133, R136) -/

/-- The bin's latch is releasing, with the count at which it began. -/
def LatchOp.releasingSince : LatchOp → Option Nat
  | .releasing since => some since
  | _ => none

/-- The bin's latch is engaging, with the count at which it began. -/
def LatchOp.engagingSince : LatchOp → Option Nat
  | .engaging since _ => some since
  | _ => none

/-- A release confirmed (R131): UNLATCHED, and dealt with at once when no longer permitted or let go. -/
def State.released (s : State) (i : BinIdx) : State :=
  ((s.modBin i (fun b => { b with latch := .unlatched, op := .idle })).settleReleased i).endIfDone

/-- LATCH RELEASED (R131) -/
def execLatchReleased (bin : BinIdx) (s : State) : Out :=
  .next (if (s.bin bin).op.releasingSince.isSome then s.released bin else s)

/-- The 1 s of an operation that began at a count has run out. -/
def latchLate (since : Option Nat) (now : Nat) : Bool := due (since.map (fun n => n + latchMs)) now

/-- RELEASE TIMEOUT (R131, R33) -/
def execReleaseTimeout (bin : BinIdx) (s : State) : Out :=
  .next (if latchLate (s.bin bin).op.releasingSince s.now then (s.faultLatch bin).endIfDone else s)

/-- An engage confirmed (R133, R137): LATCHED, with its pocket read begun. -/
def State.engaged (s : State) (i : BinIdx) : State :=
  (s.modBin i (fun b =>
    { b with latch := .latched, op := .idle, pocketReads := b.pocketReads ++ [s.now + pocketReadMs] })).endIfDone

/-- LATCH ENGAGED (R133) -/
def execLatchEngaged (bin : BinIdx) (s : State) : Out :=
  .next (if (s.bin bin).op.isEngaging then s.engaged bin else s)

/-- ENGAGE TIMEOUT (R133, R33) -/
def execEngageTimeout (bin : BinIdx) (s : State) : Out :=
  .next (if latchLate (s.bin bin).op.engagingSince s.now then (s.faultLatch bin).endIfDone else s)

/-- POCKET READ COMPLETE (R137): the oldest pocket read of the bin that has run its 400 ms ends in the bin check. -/
def execPocketReadComplete (bin : BinIdx) (seen : List Tag) (s : State) : Out :=
  .next (if due (s.bin bin).pocketReads.head? s.now then
      (s.modBin bin (fun b => { b with pocketReads := b.pocketReads.tail })).binCheck bin seen
    else s)

/-! ### The hold timer (R129) -/

/-- The hold timer of an ACTIVE selection has run out. -/
def State.holdOver (s : State) : Bool :=
  match s.selection with
  | some x => x.phase == .active && due x.holdEnd s.now
  | none => false

/-- HOLD EXPIRY (R129) -/
def execHoldExpiry (s : State) : Out :=
  .next (if s.holdOver then s.releaseSelection.notify .security .holdExpired else s)

end Sys2Proof.Machine
end

