-- ==== Sys2Proof/Machine/DepositorRequests.lean ====
section
/-!
DEFINITION. The meanings of the branch's requests on the Depositor Table, and the rate window's test, which the
lanes share (R91 to R97).
-/
namespace Sys2Proof.Machine

/-! ### Values of an entry (R89, R91) -/

/-- A valid-level set as carried (R197): a non-empty set over SEALED, COURIER and INSPECT. A set that is empty, holds
OPEN or a bit that is no level is out of range. -/
def validLevelsOf (set : BitVec 8) : Option ValidLevels :=
  if 1 ≤ set.toNat ∧ set.toNat ≤ 7 then
    some { sealed := set.getLsbD 0, courier := set.getLsbD 1, inspect := set.getLsbD 2 }
  else none

/-- The default valid-level set, {SEALED} (R89). -/
def defaultLevels : ValidLevels := { sealed := true, courier := false, inspect := false }

/-- The default per-bag limit, in pence (R89). -/
def defaultPerBag : Nat := 2000000

/-- The default drop limit (R89). -/
def defaultDropLimit : Nat := 6

/-- A per-bag limit is 100 to 3,050,000 p (R89). -/
def perBagOk (v : BitVec 32) : Bool := 100 ≤ v.toNat && v.toNat ≤ 3050000

/-- A drop limit is 1 to 15 (R89). -/
def dropLimitOk (v : BitVec 8) : Bool := 1 ≤ v.toNat && v.toNat ≤ 15

/-- Every part that the request carries is in range (R91, R92). -/
def termsOk (t : DepositorTerms) : Bool :=
  (match t.levels with
    | some v => (validLevelsOf v).isSome
    | none => true) &&
    (match t.perBag with
      | some v => perBagOk v
      | none => true) &&
    (match t.drops with
      | some v => dropLimitOk v
      | none => true)

/-- A valid-level set written where one is carried. -/
def levelsWritten (old : ValidLevels) (v : Option (BitVec 8)) : ValidLevels :=
  match v with
  | some set => (validLevelsOf set).getD old
  | none => old

/-- A number written where one is carried. -/
def numberWritten {w : Nat} (old : Nat) (v : Option (BitVec w)) : Nat :=
  match v with
  | some n => n.toNat
  | none => old

/-! ### ENROL and EDIT (R91, R92) -/

/-- A new entry (R91). -/
def freshDepositor (card : Card) (t : DepositorTerms) : Depositor :=
  { state := .active, card := card, levels := levelsWritten defaultLevels t.levels,
    perBag := numberWritten defaultPerBag t.perBag, dropLimit := numberWritten defaultDropLimit t.drops,
    windowStart := none, windowCount := 0, trust := 1, liveCount := 0 }

/-- The VACANT entry of lowest index (R91). -/
def State.firstVacant (s : State) : Option DepIdx :=
  (List.finRange 256).find? (fun i => (s.depositors.get i).isNone)

/-- ENROL (R91). -/
def answerEnrol (card : BitVec 48) (t : DepositorTerms) (s : State) : State × Answer :=
  match cardOf card with
  | none => s.refused .range
  | some c =>
    if termsOk t = false then s.refused .range
    else if (s.findCard c).isSome then s.refused .duplicate
    else
      match s.firstVacant with
      | none => s.refused .full
      | some i => (s.setDep i (some (freshDepositor c t))).okWith (.enrolled i)

/-- The new card number an EDIT carries, as its twelve digits; `some none` is not twelve decimal digits. -/
def editCard (card : Option (BitVec 48)) : Option (Option Card) := card.map cardOf

/-- An entry with the carried parts written (R92); a drop limit below the window count lowers the count. -/
def Depositor.edited (d : Depositor) (card : Option Card) (t : DepositorTerms) : Depositor :=
  { d with
    card := card.getD d.card
    levels := levelsWritten d.levels t.levels
    perBag := numberWritten d.perBag t.perBag
    dropLimit := numberWritten d.dropLimit t.drops
    windowCount := min d.windowCount (numberWritten d.dropLimit t.drops) }

/-- Another non-VACANT entry holds the card number (R92). -/
def State.cardTaken (s : State) (i : DepIdx) (c : Card) : Bool :=
  (List.finRange 256).any (fun j => j != i && (s.depositors.get j).any (fun d => d.card == c))

/-- EDIT (R92); one that carries nothing has no form an EDIT takes (R195). R92 does not order its refusals: UNKNOWN is
tested first, then RANGE, then DUPLICATE (DESIGN CHOICE, log entry 42). -/
def answerEdit (index : BitVec 8) (card : Option (BitVec 48)) (t : DepositorTerms) (s : State) : State × Answer :=
  if card.isNone ∧ t.levels.isNone ∧ t.perBag.isNone ∧ t.drops.isNone then s.refused .range
  else
    match s.dep (depOf index) with
    | none => s.refused .unknown
    | some d =>
      if termsOk t = false then s.refused .range
      else
        match editCard card with
        | none => (s.setDep (depOf index) (some (d.edited none t))).ok
        | some none => s.refused .range
        | some (some c) =>
          if s.cardTaken (depOf index) c then s.refused .duplicate
          else (s.setDep (depOf index) (some (d.edited (some c) t))).ok

/-! ### SUSPEND, RESTORE and REMOVE (R93, R94) -/

/-- SUSPEND (R93). -/
def answerSuspend (index : BitVec 8) (s : State) : State × Answer :=
  match s.dep (depOf index) with
  | none => s.refused .unknown
  | some d =>
    if d.state = .active then (s.setDep (depOf index) (some { d with state := .suspended })).ok
    else s.refused .state

/-- RESTORE of a depositor (R93). -/
def answerRestoreDepositor (index : BitVec 8) (s : State) : State × Answer :=
  match s.dep (depOf index) with
  | none => s.refused .unknown
  | some d =>
    if d.state = .suspended then (s.setDep (depOf index) (some { d with state := .active })).ok
    else s.refused .state

/-- REMOVE of a depositor (R94). -/
def answerRemoveDepositor (index : BitVec 8) (s : State) : State × Answer :=
  match s.dep (depOf index) with
  | none => s.refused .unknown
  | some d => if 0 < d.liveCount then s.refused .state else (s.setDep (depOf index) none).ok

/-! ### The rate window (R97) and READ DEPOSITOR (R95) -/

/-- The moment a window expires, in seconds from day 0 (R97). -/
def State.windowEnd (s : State) (start : Moment) : Nat := start.seconds + s.config.rateWindow * 60

/-- A window that began at a moment is running now (R97): not begun after the present, and not yet at its end. -/
def State.windowRuns (s : State) (start : Moment) : Bool :=
  start.seconds ≤ s.reading.seconds && s.reading.seconds < s.windowEnd start

/-- Whole minutes left of a running window, rounded up (R95, R97). -/
def State.windowMinutes (s : State) (start : Moment) : Nat :=
  (s.windowEnd start - s.reading.seconds + 59) / 60

/-- The depositor report (R95). With no window open the item that tells a running window from an expired one reports it
as not running (DESIGN CHOICE, log entry 51). -/
def State.depositorReport (s : State) (i : DepIdx) (d : Depositor) : DepositorReport :=
  match d.windowStart with
  | some start =>
    { index := i, entry := d, running := s.windowRuns start,
      minutesLeft := if s.windowRuns start then some (s.windowMinutes start) else none }
  | none => { index := i, entry := d, running := false, minutesLeft := none }

/-- The entry READ DEPOSITOR names (R95). -/
def State.namedDepositor (s : State) (key : DepositorKey) : Option DepIdx :=
  match key with
  | .index i => some (depOf i)
  | .card packed =>
    match cardOf packed with
    | some c => s.findCard c
    | none => none

/-- READ DEPOSITOR (R95). -/
def answerReadDepositor (key : DepositorKey) (s : State) : State × Answer :=
  match s.namedDepositor key with
  | none => s.refused .unknown
  | some i =>
    match s.dep i with
    | none => s.refused .unknown
    | some d => s.okWith (.depositor (s.depositorReport i d))

/-- ENROL -/
def execEnrol (l : Link) (card : BitVec 48) (terms : DepositorTerms) (s : State) : Out :=
  s.answerRequest l 0x60 (answerEnrol card terms)

/-- EDIT -/
def execEdit (l : Link) (index : BitVec 8) (card : Option (BitVec 48)) (terms : DepositorTerms) (s : State) : Out :=
  s.answerRequest l 0x61 (answerEdit index card terms)

/-- SUSPEND -/
def execSuspend (l : Link) (index : BitVec 8) (s : State) : Out := s.answerRequest l 0x62 (answerSuspend index)

/-- RESTORE of a depositor -/
def execRestoreDepositor (l : Link) (index : BitVec 8) (s : State) : Out :=
  s.answerRequest l 0x63 (answerRestoreDepositor index)

/-- REMOVE of a depositor -/
def execRemoveDepositor (l : Link) (index : BitVec 8) (s : State) : Out :=
  s.answerRequest l 0x64 (answerRemoveDepositor index)

/-- READ DEPOSITOR -/
def execReadDepositor (l : Link) (key : DepositorKey) (s : State) : Out :=
  s.answerRequest l 0x65 (answerReadDepositor key)

end Sys2Proof.Machine
end

