-- ==== Sys2Proof/Machine/LaneEvents.lean ====
section
/-!
DEFINITION. The meanings of the lanes' events: cards, keys, field lines, the drawer's tag reader, the scale, the
route and the lane's timers (R55 to R70). A timer's expiry is taken when its timer has run out, and is otherwise no
event. No lane event is taken in RETENTION (R209).
-/
namespace Sys2Proof.Machine

/-! ### Cards (R58, R96, R97) -/

/-- A level is in a valid-level set; OPEN is in none (R96). -/
def ValidLevels.has (v : ValidLevels) : Level → Bool
  | .sealed => v.sealed
  | .courier => v.courier
  | .inspect => v.inspect
  | .opened => false

/-- The rate window after its renewal (R97): a window opened when none is open or the one held has expired. -/
def State.renewed (s : State) (d : Depositor) : Depositor :=
  if d.windowStart.any s.windowRuns then d else { d with windowStart := some s.reading, windowCount := 0 }

/-- Minutes shown with WAIT (R97). -/
def State.waitMinutes (s : State) (d : Depositor) : Nat :=
  match d.windowStart with
  | some start => s.windowMinutes start
  | none => 0

/-- A card is refused (R58): the refusal is shown for 3 s. -/
def State.refuseCard (s : State) (l : LaneId) (why : CardRefusal) : State :=
  s.modLane l (fun x =>
    { x with state := .card, phaseTimer := some (s.now + refusalMs), display := .refusal why })

/-- The session part of an accepted card (R58, R59). -/
def newSession (card : Card) (i : DepIdx) (now : Nat) : Session :=
  { card := some card, depositor := i, stage := .notes, notes := none, silver := none, bronze := none, keyed := [],
    refused := 0, keyTimer := some (now + keyTimerMs), tag := none, capture := none, verdict := none, record := none }

/-- A card passes every test (R58): DECLARE. -/
def State.acceptCard (s : State) (l : LaneId) (card : Card) (i : DepIdx) : State :=
  s.modLane l (fun x =>
    { x with state := .declare, session := some (newSession card i s.now),
             display := .enterAmount .notes })

/-- The tests of R58 after the rate window's renewal, on the renewed entry. -/
def State.judgeCard (s : State) (l : LaneId) (card : Card) (i : DepIdx) (d : Depositor) : State :=
  if d.dropLimit ≤ d.windowCount then s.refuseCard l (.wait (s.waitMinutes d))
  else if 24 ≤ d.liveCount then s.refuseCard l .tooManyBags
  else if 512 ≤ s.live then (s.refuseCard l .safeFull).notify .branch .safeFull
  else s.acceptCard l card i

/-- A card read in IDLE (R58). -/
def State.presentCard (s : State) (l : LaneId) (card : Card) : State :=
  match s.findCard card with
  | none => s.refuseCard l .unknownCard
  | some i =>
    match s.dep i with
    | none => s.refuseCard l .unknownCard
    | some d =>
      if d.state ≠ .active then s.refuseCard l .suspended
      else if d.levels.has s.levels.effective = false then s.refuseCard l .notNow
      else (s.setDep i (some (s.renewed d))).judgeCard l card i (s.renewed d)

/-- The number of a receipt that was not printed is being shown (R66), at a closed lane too (DESIGN CHOICE, log entry
56). -/
def Lane.showsReceipt (x : Lane) (now : Nat) : Bool :=
  match x.display with
  | .receiptNumber _ shownTo => decide (now < shownTo)
  | _ => false

/-- A card or a key that is not taken (R50): a closed lane shows LANE CLOSED, but not in the 30 s of a receipt number
(R66), which no rule orders against R50 (DESIGN CHOICE, log entry 56). -/
def State.showClosed (s : State) (l : LaneId) : State :=
  if !s.inRetention && (s.lane l).isClosed && !(s.lane l).showsReceipt s.now then
    s.modLane l (fun x => { x with display := .laneClosed })
  else s

/-- A card read that can be taken: in IDLE, with the lanes running (R50, R58). -/
def State.takesCard (s : State) (l : LaneId) : Bool := !s.inRetention && (s.lane l).state == .idle

/-- CARD READ (R58, R50) -/
def execCardRead (l : LaneId) (card : Card) (s : State) : Out :=
  .next (if s.takesCard l then s.presentCard l card else s.showClosed l)

/-- The lane stands in a state with its phase timer run out. -/
def State.phaseOver (s : State) (l : LaneId) (st : LaneState) : Bool :=
  (s.lane l).state == st && due (s.lane l).phaseTimer s.now

/-- CARD REFUSAL EXPIRY (R58) -/
def execCardRefusalExpiry (l : LaneId) (s : State) : Out :=
  .next (if s.phaseOver l .card then s.rest l else s)

/-! ### Keys (R59, R60) -/

/-- The number that keyed digits spell; no digits spell 0 (R59). -/
def keyedNumber (keyed : List (Fin 10)) : Nat := keyed.foldl (fun n d => n * 10 + d.val) 0

/-- An amount offered at a stage passes (R59). -/
def amountOk (stage : DeclStage) (v : Nat) : Bool :=
  match stage with
  | .notes => v ≤ 2500000 && v % 500 == 0
  | .silver => v ≤ 500000 && v % 5 == 0
  | .bronze => v ≤ 50000
  | .complete => false

/-- Replace a lane's session part and what it displays. -/
def State.setSession (s : State) (l : LaneId) (x : Session) (d : Display) : State :=
  s.modLane l (fun y => { y with session := some x, display := d })

/-- The per-bag limit at a test of a declaration (R96): 0 for a VACANT entry. -/
def State.perBagLimit (s : State) (i : DepIdx) : Nat :=
  match s.dep i with
  | some d => d.perBag
  | none => 0

/-- Entry into LOAD (R61): the bolt is released first when it is locked. A lock pulse of R57 that still awaits its
confirmation is waited for through CARD and DECLARE and given up here (DESIGN CHOICE, log entry 35). -/
def State.enterLoad (s : State) (l : LaneId) (x : Session) : State :=
  let t := s.modLane l (fun y =>
    { y with state := .load, session := some { x with keyTimer := none }, phaseTimer := none, lockGoal := none })
  if (t.lane l).inputs.drawerLocked then t.beginLock l false
  else t.modLane l (fun y => { y with phaseTimer := some (s.now + loadMs), display := .loadBag })

/-- A declaration is refused (R60): the display shows the reason, the refusal is counted, and at the third the session
ends, the reason staying on the display until something else is shown (DESIGN CHOICE, log entry 37). -/
def State.refuseDeclaration (s : State) (l : LaneId) (x : Session) (why : DeclRefusal) : State :=
  if 3 ≤ x.refused + 1 then (s.rest l).modLane l (fun y => { y with display := .declarationRefused why })
  else s.setSession l
    { x with stage := .notes, notes := none, silver := none, bronze := none, keyed := [], refused := x.refused + 1 }
    (.declarationRefused why)

/-- The whole declaration is tested when the bronze amount is taken (R60). -/
def State.testDeclaration (s : State) (l : LaneId) (x : Session) : State :=
  if x.decl.total = 0 then s.refuseDeclaration l x .zeroTotal
  else if s.perBagLimit x.depositor < x.decl.total then s.refuseDeclaration l x .overLimit
  else s.enterLoad l { x with stage := .complete }

/-- An amount that passes is kept and the next asked for (R59). -/
def State.keepAmount (s : State) (l : LaneId) (x : Session) (v : Nat) : State :=
  match x.stage with
  | .notes => s.setSession l { x with notes := some v, keyed := [], stage := .silver } (.enterAmount .silver)
  | .silver => s.setSession l { x with silver := some v, keyed := [], stage := .bronze } (.enterAmount .bronze)
  | .bronze => s.testDeclaration l { x with bronze := some v, keyed := [] }
  | .complete => s

/-- ENTER offers the amount keyed (R59). -/
def State.offerAmount (s : State) (l : LaneId) (x : Session) : State :=
  if amountOk x.stage (keyedNumber x.keyed) then s.keepAmount l x (keyedNumber x.keyed)
  else s.setSession l { x with keyed := [] } (.amountRefused x.stage)

/-- The key's action (R59, R60); `x` is the session with its key timer restarted. -/
def State.actKey (s : State) (l : LaneId) (x : Session) : Key → State
  | .digit d =>
    s.setSession l (if x.keyed.length < 7 then { x with keyed := x.keyed ++ [d] } else x) (.enterAmount x.stage)
  | .clear => s.setSession l { x with keyed := [] } (.enterAmount x.stage)
  | .enter => s.offerAmount l x
  | .cancel => s.rest l

/-- A key at a lane that is not in DECLARE is not taken (R50, R57, R59). -/
def State.declaring (s : State) (l : LaneId) : Option Session :=
  if s.inRetention then none
  else if (s.lane l).state = .declare then (s.lane l).session
  else none

/-- KEY PRESS (R59, R50) -/
def execKeyPress (l : LaneId) (key : Key) (s : State) : Out :=
  .next (match s.declaring l with
    | some x => s.actKey l { x with keyTimer := some (s.now + keyTimerMs) } key
    | none => s.showClosed l)

/-- The key timer has run out in DECLARE (R60). -/
def State.keysOver (s : State) (l : LaneId) : Bool :=
  match s.declaring l with
  | some x => due x.keyTimer s.now
  | none => false

/-- KEY TIMER EXPIRY (R60) -/
def execKeyTimerExpiry (l : LaneId) (s : State) : Out := .next (if s.keysOver l then s.rest l else s)

/-! ### Field lines (R55, R57, R61, R67 to R69) -/

/-- A filtered input. -/
def inputValue (i : LaneInputs) : LaneInput → Bool
  | .drawerClosed => i.drawerClosed
  | .drawerLocked => i.drawerLocked
  | .bagPresent => i.bagPresent
  | .drawerForced => i.drawerForced

/-- A filtered input takes a value. -/
def inputPut (i : LaneInputs) (k : LaneInput) (v : Bool) : LaneInputs :=
  match k with
  | .drawerClosed => { i with drawerClosed := v }
  | .drawerLocked => { i with drawerLocked := v }
  | .bagPresent => { i with bagPresent := v }
  | .drawerForced => { i with drawerForced := v }

/-- The change is a forcing (R69); `i` holds the inputs after it. -/
def forcedBy (i : LaneInputs) (k : LaneInput) : Bool :=
  match k with
  | .drawerForced => i.drawerForced
  | .drawerClosed => !i.drawerClosed && i.drawerLocked
  | .drawerLocked => i.drawerLocked && !i.drawerClosed
  | .bagPresent => false

/-- The bolt has reached the position a lock pulse was to bring (R57, R61, R67): in LOAD the bag is asked for, or the
tag read; in RETURN the motor runs. -/
def State.boltConfirmed (s : State) (l : LaneId) (wantLocked : Bool) : State :=
  let t := s.modLane l (fun x => { x with lockGoal := none })
  match (s.lane l).state, wantLocked with
  | .load, true => t.modLane l (fun x => { x with tagReader := some .load, display := .processing })
  | .load, false => t.modLane l (fun x => { x with phaseTimer := some (s.now + loadMs), display := .loadBag })
  | .ret, false => t.beginReturnPulse l
  | _, _ => t

/-- A change of drawer-locked (R57, R61, R67). -/
def State.lockedChanged (s : State) (l : LaneId) (v : Bool) : State :=
  match (s.lane l).lockGoal with
  | some g => if g.wantLocked = v then s.boltConfirmed l v else s
  | none => s.keepShut l

/-- The drawer is loaded (R61): the phase timer stops and the bolt is to lock. The lock is pulsed only when the input
shows the other position (R56); with drawer-locked already set the bolt counts as confirmed (DESIGN CHOICE, log entry
38). -/
def State.loaded (s : State) (l : LaneId) : State :=
  let t := s.modLane l (fun x => { x with phaseTimer := none })
  if (t.lane l).inputs.drawerLocked then t.boltConfirmed l true else t.beginLock l true

/-- The lane waits in LOAD for the bag, its bolt released (R61). While the releasing lock pulse awaits its confirmation
a change that makes drawer-closed and bag-present both set loads nothing, then or at the confirmation: the lane waits
its 30 s for another change that makes both set (DESIGN CHOICE, log entry 60). -/
def Lane.awaitsBag (x : Lane) : Bool := x.state == .load && x.phaseTimer.isSome && x.lockGoal.isNone

/-- A change of drawer-closed or bag-present that makes both set loads the drawer in LOAD (R61); otherwise an idle or
closed lane keeps its drawer shut (R57). -/
def State.loadOrShut (s : State) (l : LaneId) : State :=
  if (s.lane l).awaitsBag then
    if (s.lane l).inputs.drawerClosed && (s.lane l).inputs.bagPresent then s.loaded l else s
  else s.keepShut l

/-- A change of bag-present (R57, R61, R68). -/
def State.bagChanged (s : State) (l : LaneId) (v : Bool) : State :=
  if (s.lane l).state = .idle ∧ v = true then s.enterReturnWait l none
  else if (s.lane l).state = .returnWait ∧ v = false then s.rest l
  else s.loadOrShut l

/-- The action of a change that is no forcing, by the input (R57, R61, R67, R68). -/
def State.inputChanged (s : State) (l : LaneId) (k : LaneInput) (v : Bool) : State :=
  match k with
  | .drawerLocked => s.lockedChanged l v
  | .bagPresent => s.bagChanged l v
  | .drawerClosed => s.loadOrShut l
  | .drawerForced => s

/-- A filtered input takes a new value (R55). -/
def State.changeInput (s : State) (l : LaneId) (k : LaneInput) (v : Bool) : State :=
  let t := s.modLane l (fun x => { x with inputs := inputPut x.inputs k v })
  if forcedBy (t.lane l).inputs k then t.forceDrawer l else t.inputChanged l k v

/-- LANE INPUT CHANGE (R55); a value the input already has is no change, and no line is sampled in RETENTION. -/
def execLaneInputChange (l : LaneId) (input : LaneInput) (value : Bool) (s : State) : Out :=
  .next (if s.inRetention ∨ inputValue (s.lane l).inputs input = value then s else s.changeInput l input value)

/-- A lock pulse's confirmation has not come in time (R57, R61, R67). -/
def State.boltLate (s : State) (l : LaneId) : Bool :=
  match (s.lane l).lockGoal with
  | some g => due g.confirmBy s.now
  | none => false

/-- LOCK CONFIRM TIMEOUT (R57, R61, R67) -/
def execLockConfirmTimeout (l : LaneId) (s : State) : Out := .next (if s.boltLate l then s.jam l else s)

/-- The 30 s of LOAD have run out (R61): with a bag, RETURN_WAIT with TIMEOUT; without, the session ends. With a bag the
session part goes in this event and not when the bag is taken (DESIGN CHOICE, log entry 39). -/
def State.loadOver (s : State) (l : LaneId) : State :=
  if (s.lane l).inputs.bagPresent then
    (s.modLane l (fun x => { x with session := none })).enterReturnWait l (some .timeout)
  else s.rest l

/-- LOAD TIMEOUT (R61) -/
def execLoadTimeout (l : LaneId) (s : State) : Out := .next (if s.phaseOver l .load then s.loadOver l else s)

/-! ### Tag and weight (R62, R63, R53) -/

/-- The serial read in LOAD (R62). -/
def State.tagLoaded (s : State) (l : LaneId) (result : Option Tag) : State :=
  match result with
  | none => s.enterReturn l .tag
  | some t =>
    if (s.findTag t).isSome then s.enterReturn l .duplicate
    else (s.modLane l (fun x =>
      { x with session := x.session.map (fun y => { y with tag := some t }) })).enterWeigh l

/-- The serial read at an opening check (R53): a live record's tag jams the lane, any other sends the bag back. -/
def State.tagFound (s : State) (l : LaneId) (result : Option Tag) : State :=
  if result.any (fun t => (s.findTag t).isSome) then s.jam l else s.enterReturn l .interrupted

/-- TAG READ (R62, R53) -/
def execTagRead (l : LaneId) (result : Option Tag) (s : State) : Out :=
  .next (match (s.lane l).tagReader with
    | some .load => s.tagLoaded l result
    | some .openingCheck => s.tagFound l result
    | none => s)

/-- The recent samples with a new one, latest first; the last three are kept, which is all R63 looks at. -/
def recentSamples (sample : Reading) (samples : List Reading) : List Reading := (sample :: samples).take 3

/-- The settling sample (R63): the phase timer stops, the session part holds the capture (R50) and CHECK is made. -/
def State.settle (s : State) (l : LaneId) (capture : Reading) : State :=
  (s.modLane l (fun x =>
    { x with state := .check, phaseTimer := none
             session := x.session.map (fun y => { y with capture := some capture }) })).check l capture

/-- A sample is added in WEIGH (R63). -/
def State.addSample (s : State) (l : LaneId) (sample : Reading) : State :=
  let t := s.modLane l (fun x => { x with samples := recentSamples sample x.samples })
  match settled (t.lane l).samples with
  | some capture => t.settle l capture
  | none => t

/-- SCALE SAMPLE (R63) -/
def execScaleSample (l : LaneId) (sample : Reading) (s : State) : Out :=
  .next (if (s.lane l).state = .weigh then s.addSample l sample else s)

/-- No settled reading in 3 s (R63); a restart re-check's record is rolled back first (R70). -/
def State.weighOver (s : State) (l : LaneId) : State :=
  match s.reservedOf l with
  | some r => (s.rollback r).enterReturn l .unstable
  | none => s.enterReturn l .unstable

/-- WEIGH TIMEOUT (R63) -/
def execWeighTimeout (l : LaneId) (s : State) : Out := .next (if s.phaseOver l .weigh then s.weighOver l else s)

/-! ### Tip, route and return (R65 to R68) -/

/-- The diverter's positioning is over (R65): the tip begins, or fails. -/
def State.positioned (s : State) (l : LaneId) (atBin : Bool) : State :=
  match s.reservedOf l with
  | some r => if atBin then s.beginTip l r else s.failTip l r
  | none => s

/-- POSITIONING EXPIRY (R65) -/
def execPositioningExpiry (l : LaneId) (atBin : Bool) (s : State) : Out :=
  .next (if s.phaseOver l .tip then s.positioned l atBin else s)

/-- The end of a lock pulse (R57, R61, R67): the confirmation is due 500 ms later. -/
def State.lockPulseOver (s : State) (l : LaneId) : State :=
  s.modLane l (fun x =>
    { x with lockGoal := x.lockGoal.map (fun g => { g with confirmBy := some (s.now + lockConfirmMs) }) })

/-- The end of a tip pulse (R66): a bag still in the drawer jams the lane. After an arrival that came before the pulse's
end there is no route part, and nothing is done (DESIGN CHOICE, log entry 50). -/
def State.tipPulseOver (s : State) (l : LaneId) : State :=
  if (s.lane l).route.isSome && (s.lane l).inputs.bagPresent then s.jam l else s

/-- The end of a return pulse (R67): the drawer must be out. -/
def State.returnPulseOver (s : State) (l : LaneId) : State :=
  if (s.lane l).state = .ret then
    if (s.lane l).inputs.drawerClosed then s.jam l else s.enterReturnWait l (s.lane l).returnReason
  else s

/-- The end of an output's pulse (R56). -/
def State.pulseOver (s : State) (l : LaneId) (o : Actuator) : State :=
  let t := s.resetOutput l o
  match o with
  | .lock => t.lockPulseOver l
  | .tip => t.tipPulseOver l
  | .ret => t.returnPulseOver l

/-- PULSE EXPIRY (R56) -/
def execPulseExpiry (l : LaneId) (output : Actuator) (s : State) : Out :=
  .next (if due ((s.lane l).output output).pulseEnd s.now then s.pulseOver l output else s)

/-- A trip of the target bin's entry sensor (R66): an arrival read begins, unless one is in progress. The table has no
row for the sensor's filtered value returning to clear, so it stays set to the route's end, and a further trip is taken
as a setting of its own, the clearing before it being implied (DESIGN CHOICE, log entry 57). -/
def Route.tripped (x : Route) (now : Nat) : Route :=
  { x with sensor := true, arrivalRead := some (x.arrivalRead.getD (now + arrivalReadMs)) }

/-- ENTRY SENSOR TRIP (R66); every one is a trip, also with the filtered value still held set (log entry 57). -/
def execEntrySensorTrip (l : LaneId) (s : State) : Out :=
  .next (s.modLane l (fun x => { x with route := x.route.map (fun y => y.tripped s.now) }))

/-- The IN_FLIGHT record that a route names (R11, R12). -/
def State.inFlight (s : State) (x : Route) : Option BagRecord :=
  match s.findTag x.record with
  | some r => if r.state = .inFlight then some r else none
  | none => none

/-- An arrival read completes (R66): an arrival when the record's tag is among those seen. -/
def State.arrivalRead (s : State) (l : LaneId) (x : Route) (seen : List Tag) (printerFault : Bool) : State :=
  if x.record ∈ seen then
    match s.inFlight x with
    | some r => s.arrive l r printerFault
    | none => s
  else s.modLane l (fun y => { y with route := some { x with arrivalRead := none } })

/-- ARRIVAL READ COMPLETE (R66) -/
def execArrivalReadComplete (l : LaneId) (seen : List Tag) (printerFault : Bool) (s : State) : Out :=
  .next (match (s.lane l).route with
    | some x => if due x.arrivalRead s.now then s.arrivalRead l x seen printerFault else s
    | none => s)

/-- ROUTE TIMEOUT (R12, R66) -/
def execRouteTimeout (l : LaneId) (s : State) : Out :=
  .next (match (s.lane l).route with
    | some x =>
      if x.tipCount + routeMs ≤ s.now then
        match s.inFlight x with
        | some r => s.timeoutRoute l r
        | none => s
      else s
    | none => s)

/-- The 60 s of RETURN_WAIT have run out (R68); there is no further expiry. A RETURN_WAIT entered with bag-present
already clear waits for it to become set and clear again, and its expiry without a bag only stops the timer (DESIGN
CHOICE, log entry 40). -/
def State.waitOver (s : State) (l : LaneId) : State :=
  let t := s.modLane l (fun x => { x with phaseTimer := none })
  if (s.lane l).inputs.bagPresent then (t.modLane l (fun x => { x with bagLeft := true })).notify .branch .bagLeft
  else t

/-- RETURN WAIT EXPIRY (R68) -/
def execReturnWaitExpiry (l : LaneId) (s : State) : Out :=
  .next (if s.phaseOver l .returnWait then s.waitOver l else s)

end Sys2Proof.Machine
end

