-- ==== Sys2Proof/Machine/Access.lean ====
section
/-!
DEFINITION. The meanings of the requests to the Level Arbiter and the Time-Lock Table (R106 to R110, R118).
-/
namespace Sys2Proof.Machine

/-- The raise state as a reply carries it (R106). -/
def LevelArbiter.raiseState (a : LevelArbiter) : RaiseState :=
  match a.raise with
  | none => .nothing
  | some r =>
    match r.phase with
    | .raising => .raising
    | .ready => .ready

/-- The reply of a REQUEST LEVEL that is taken (R106, R107). -/
def State.requestedReply (s : State) : State × Answer :=
  s.okWith (.requested s.levels.branchRequest s.levels.target s.levels.effective s.levels.raiseState)

/-- The branch request becomes a level and the target is recomputed (R106). -/
def State.setBranchRequest (s : State) (v : Level) : State :=
  State.arbitrate { s with levels := { s.levels with branchRequest := v } } s.levels

/-- The courier request takes a value and the target is recomputed (R107). -/
def State.setCourierRequest (s : State) (v : CourierRequest) : State :=
  State.arbitrate { s with levels := { s.levels with courierRequest := v } } s.levels

/-- A courier request as carried (R197): COURIER, or 0xFF for NONE. -/
def courierRequestOf (field : BitVec 8) : Option CourierRequest :=
  if field.toNat = 1 then some .courier else if field.toNat = 0xFF then some .nothing else none

/-- REQUEST LEVEL (R106 from the branch link, R107 from the courier port). -/
def answerRequestLevel (l : Link) (level : BitVec 8) (s : State) : State × Answer :=
  match l with
  | .courier =>
    if s.loggedIn = false then s.refused .state
    else
      match courierRequestOf level with
      | none => s.refused .range
      | some v => (s.setCourierRequest v).requestedReply
  | _ => (s.setBranchRequest ((levelOf level).getD .opened)).requestedReply

/-- A master's link as the party it speaks for; the security link speaks for neither. -/
def partyOf : Link → Party
  | .courier => .courier
  | _ => .branch

/-- The raise completes (R118): the raise target takes effect, with the effects of R105. -/
def State.completeRaise (s : State) (target : Level) : State :=
  ({ s with levels := { s.levels with effective := target, raise := none } }).levelEffects s.levels.effective target

/-- CONFIRM (R118). -/
def answerConfirm (l : Link) (s : State) : State × Answer :=
  if l = .courier ∧ s.loggedIn = false then s.refused .state
  else
    match s.levels.raise with
    | none => s.refused .state
    | some r =>
      if r.phase = .raising then s.refused .state
      else if s.levels.mayConfirm (partyOf l) then (s.completeRaise r.target).okWith (.confirmed r.target)
      else s.refused .level

/-- The ceiling takes a value and the target is recomputed (R108, R109). -/
def State.setCeilingTo (s : State) (v : Level) : State :=
  State.arbitrate { s with levels := { s.levels with ceiling := v } } s.levels

/-- The reply of a SET CEILING that is taken (R108). -/
def State.ceilingReply (s : State) : State × Answer :=
  s.okWith (.ceiling s.levels.ceiling s.levels.target s.levels.effective)

/-- SET CEILING (R108). A level above OPEN is RANGE (R197) also while the duress latch is set (DESIGN CHOICE, log entry
43). -/
def answerSetCeiling (level : BitVec 8) (s : State) : State × Answer :=
  match levelOf level with
  | none => s.refused .range
  | some v => if s.levels.duress then s.refused .state else (s.setCeilingTo v).ceilingReply

/-- RAISE DURESS (R109). -/
def answerRaiseDuress (s : State) : State × Answer :=
  if s.levels.duress then s.ok
  else
    (State.arbitrate { s with levels := { s.levels with duress := true, ceiling := .sealed } } s.levels).ok

/-- CLEAR DURESS (R109). -/
def answerClearDuress (s : State) : State × Answer :=
  if s.levels.duress then (State.ok { s with levels := { s.levels with duress := false } })
  else s.refused .state

/-- A window slot byte (R110). -/
def windowSlotOf (field : BitVec 8) : Option (Fin 8) :=
  if h : field.toNat < 8 then some ⟨field.toNat, h⟩ else none

/-- The window a SET WINDOW carries (R110); none when a value is out of range. -/
def windowOf (days : BitVec 8) (startMinute endMinute : BitVec 16) (level : BitVec 8) : Option Window :=
  match levelOf level with
  | none => none
  | some v =>
    if days.toNat = 0 ∨ 128 ≤ days.toNat ∨ 1439 < startMinute.toNat ∨ 1440 < endMinute.toNat ∨
        endMinute.toNat ≤ startMinute.toNat then none
    else some { days := days, startMinute := startMinute.toNat, endMinute := endMinute.toNat, level := v }

/-- A slot is written and the allowance recomputed (R110, R111). -/
def State.writeSlot (s : State) (i : Fin 8) (w : Option Window) : State :=
  State.recomputeAllowance { s with windows := s.windows.set i w }

/-- SET WINDOW (R110). -/
def answerSetWindow (slot days : BitVec 8) (startMinute endMinute : BitVec 16) (level : BitVec 8) (s : State) :
    State × Answer :=
  match windowSlotOf slot, windowOf days startMinute endMinute level with
  | some i, some w => (s.writeSlot i (some w)).ok
  | _, _ => s.refused .range

/-- CLEAR WINDOW (R110). -/
def answerClearWindow (slot : BitVec 8) (s : State) : State × Answer :=
  match windowSlotOf slot with
  | some i => (s.writeSlot i none).ok
  | none => s.refused .range

/-- REQUEST LEVEL -/
def execRequestLevel (l : Link) (level : BitVec 8) (s : State) : Out :=
  s.answerRequest l 0x20 (answerRequestLevel l level)

/-- CONFIRM -/
def execConfirm (l : Link) (s : State) : Out := s.answerRequest l 0x21 (answerConfirm l)

/-- SET CEILING -/
def execSetCeiling (l : Link) (level : BitVec 8) (s : State) : Out := s.answerRequest l 0x22 (answerSetCeiling level)

/-- RAISE DURESS -/
def execRaiseDuress (l : Link) (s : State) : Out := s.answerRequest l 0x23 answerRaiseDuress

/-- CLEAR DURESS -/
def execClearDuress (l : Link) (s : State) : Out := s.answerRequest l 0x24 answerClearDuress

/-- SET WINDOW -/
def execSetWindow (l : Link) (slot days : BitVec 8) (startMinute endMinute : BitVec 16) (level : BitVec 8)
    (s : State) : Out :=
  s.answerRequest l 0x25 (answerSetWindow slot days startMinute endMinute level)

/-- CLEAR WINDOW -/
def execClearWindow (l : Link) (slot : BitVec 8) (s : State) : Out := s.answerRequest l 0x26 (answerClearWindow slot)

end Sys2Proof.Machine
end

