-- ==== Sys2Proof/Machine/RackRequests.lean ====
section
/-!
DEFINITION. The meanings of the requests on racks and bins: SELECT RACK, UNLATCH BIN, RELATCH BIN, RELEASE RACK,
WITHDRAW BIN, RESTORE BIN, RACK INVENTORY, READ STRAYS and CLEAR STRAYS (R127, R130, R132, R134, R32, R34, R150,
R156).
-/
namespace Sys2Proof.Machine

/-! ### Selections (R127, R128) -/

/-- A request from the courier port before LOGIN (R127, R183; chapter 10.4). -/
def State.crewAbsent (s : State) (l : Link) : Bool := l == .courier && !s.loggedIn

/-- A fresh ACTIVE selection, its hold end one rack hold maximum ahead (R127). -/
def State.freshSelection (s : State) (p : Party) (rack : RackIdx) : Selection :=
  { owner := p, rack := rack, phase := .active, holdEnd := some (s.now + s.holdMs) }

/-- A WAITING step judged against a new selection (R147): skipped when the selection is of its rack. -/
def State.judgeWaiting (s : State) : State :=
  if s.sweep.step = .waiting ∧ s.selectedRack = some s.sweep.pointer then
    State.endStep { s with sweep := s.sweep.advance }
  else s

/-- A selection is made, renewed or changed (R127, R128); a change of rack abandons a RACK INVENTORY read (R150). -/
def State.makeSelection (s : State) (p : Party) (rack : RackIdx) : State :=
  State.judgeWaiting
    { s with
      selection := some (s.freshSelection p rack)
      sweep := if s.selectedRack = some rack then s.sweep else s.sweep.abandonBranchRead }

/-- Tests 5 and 6 of R127, and R128: the rack may be claimed by the party. -/
def State.mayClaim (s : State) (p : Party) (rack : RackIdx) : Bool :=
  match s.selection with
  | none => true
  | some x => x.owner == p && x.phase == .active && (x.rack == rack || s.rackQuiet x.rack)

/-- The reply of a SELECT RACK that is taken (R127). -/
def State.selectedReply (s : State) (rack : RackIdx) : State × Answer :=
  s.okWith (.selected rack (momentAt s.clock (s.now + s.holdMs)))

/-- SELECT RACK (R127). -/
def answerSelectRack (l : Link) (rack : BitVec 8) (s : State) : State × Answer :=
  match rackOfByte rack with
  | none => s.refused .unknown
  | some r =>
    if s.crewAbsent l then s.refused .state
    else if s.inInventory ∨ s.grant = .read then s.refused .busy
    else if s.mayClaim (partyOf l) r then (s.makeSelection (partyOf l) r).selectedReply r
    else s.refused .busy

/-! ### UNLATCH BIN and RELATCH BIN (R130, R132) -/

/-- The rack of the sender's ACTIVE selection. -/
def State.activeRack (s : State) (p : Party) : Option RackIdx :=
  match s.selection with
  | some x => if x.owner = p ∧ x.phase = .active then some x.rack else none
  | none => none

/-- The action of an UNLATCH BIN that passes its tests (R130). A FAULT bin does not pass them. -/
def State.unlatch (s : State) (i : BinIdx) : State :=
  match (s.bin i).latch with
  | .latched => s.modBin i (fun b => { b with op := .releasing s.now })
  | .unlatched => s.modBin i (fun b => { b with op := .idle })
  | .unsecured => s.modBin i (fun b => { b with latch := .unlatched })
  | .fault => s

/-- The tests of R130 on the bin, in order; none when it passes them all. -/
def State.unlatchRefusal (s : State) (p : Party) (b : Bin) : Option Status :=
  if b.op.inProgress then some .busy
  else if b.latch = .fault then some .state
  else if s.permits p b = false then some .level
  else if p = .courier ∧ s.holdsListed b = false then some .state
  else none

/-- UNLATCH BIN (R130). -/
def answerUnlatchBin (l : Link) (slot : BitVec 8) (s : State) : State × Answer :=
  match slotOf slot with
  | none => s.refused .unknown
  | some k =>
    match s.activeRack (partyOf l) with
    | none => s.refused .state
    | some r =>
      match s.unlatchRefusal (partyOf l) (s.bin (binAt r k)) with
      | some why => s.refused why
      | none => (s.unlatch (binAt r k)).ok

/-- A RELATCH BIN with the door CLOSED begins an engage, but of a LATCHED bin (R132). -/
def State.relatchClosed (s : State) (i : BinIdx) : State :=
  if (s.bin i).latch = .latched then s else s.beginEngage i true

/-- An UNLATCHED bin becomes WAITING FOR DOOR; one that waits goes on waiting (R132). -/
def State.waitForDoor (s : State) (i : BinIdx) : State :=
  if (s.bin i).latch = .unlatched ∧ (s.bin i).op = .idle then
    s.modBin i (fun b => { b with op := .waitingForDoor s.now })
  else s

/-- The action and reply of a RELATCH BIN by the bin's state and door (R132). -/
def answerRelatch (i : BinIdx) (s : State) : State × Answer :=
  if (s.bin i).op.inProgress then s.refused .busy
  else
    match (s.bin i).door with
    | .closed => (s.relatchClosed i).ok
    | .opened => if (s.bin i).latch = .fault then s.refused .state else (s.waitForDoor i).ok

/-- RELATCH BIN (R132, R189): the slot (UNKNOWN) is tested before the selection and the login (STATE) (DESIGN CHOICE, log
entry 54). -/
def answerRelatchBin (l : Link) (slot : BitVec 8) (s : State) : State × Answer :=
  match slotOf slot with
  | none => s.refused .unknown
  | some k =>
    match s.activeRack (partyOf l) with
    | none => s.refused .state
    | some r => answerRelatch (binAt r k) s

/-- The sender holds the selection in force. -/
def State.holdsSelection (s : State) (p : Party) : Bool :=
  match s.selection with
  | some x => x.owner == p
  | none => false

/-- RELEASE RACK (R134); before LOGIN the courier port is refused STATE (chapter 10.4, log entry 11). -/
def answerReleaseRack (l : Link) (s : State) : State × Answer :=
  if s.crewAbsent l ∨ s.holdsSelection (partyOf l) = false then s.refused .state
  else s.releaseSelection.ok

/-! ### Classes (R32, R34) -/

/-- A withdrawal (R32); a bin the branch holds at INSPECT loses its permission with its class (R114). -/
def State.withdrawBin (s : State) (i : BinIdx) : State :=
  (s.modBin i (fun b => { b with cls := .outOfService })).dropUnpermitted

/-- WITHDRAW BIN (R32). -/
def answerWithdrawBin (bin : BitVec 8) (s : State) : State × Answer :=
  match binOf bin with
  | none => s.refused .unknown
  | some i => (s.withdrawBin i).ok

/-- RESTORE BIN (R34). -/
def answerRestoreBin (bin : BitVec 8) (s : State) : State × Answer :=
  match binOf bin with
  | none => s.refused .unknown
  | some i =>
    if (s.bin i).cls ≠ .outOfService ∨ (s.bin i).latch = .fault then s.refused .state
    else (s.modBin i (fun b => { b with cls := binClassOf (rackClass s.config.inspectRacks i) })).ok

/-! ### RACK INVENTORY and the strays list (R150, R156) -/

/-- RACK INVENTORY (R150). -/
def answerRackInventory (rack : BitVec 8) (s : State) : State × Answer :=
  match rackOfByte rack with
  | none => s.refused .unknown
  | some r =>
    if s.activeRack .branch ≠ some r then s.refused .state
    else if s.sweep.read.isSome ∨ s.rackQuiet r = false then s.refused .busy
    else (s.startRead r .branch).ok

/-- Stray entries in one reply (R198). -/
def straysPerPart : Nat := 4

/-- READ STRAYS (R156, R198). -/
def answerReadStrays (part : Option (BitVec 8)) (s : State) : State × Answer :=
  let n := s.strays.entries.length
  let p := partAsked part
  if partCount n straysPerPart ≤ p then s.refused .range
  else s.okWith (.strays p (partCount n straysPerPart) n s.strays.incomplete
    ((s.strays.entries.drop (p * straysPerPart)).take straysPerPart))

/-- The oldest entries leave the list (R156). -/
def State.clearOldest (s : State) (n : Nat) : State :=
  { s with strays := s.strays.withEntries (s.strays.entries.drop n) }

/-- The reply of a CLEAR STRAYS (R156): the numbers removed and left. -/
def State.clearReply (s : State) (n : Nat) : State × Answer :=
  (s.clearOldest n).okWith
    (.straysCleared (min n s.strays.entries.length) (s.strays.entries.length - n))

/-- CLEAR STRAYS (R156): a count outside 1 to 16 is refused with RANGE; ALL removes every entry. -/
def answerClearStrays (count : Option (BitVec 8)) (s : State) : State × Answer :=
  match count with
  | none => s.clearReply s.strays.entries.length
  | some c => if c.toNat = 0 ∨ 16 < c.toNat then s.refused .range else s.clearReply c.toNat

/-- SELECT RACK -/
def execSelectRack (l : Link) (rack : BitVec 8) (s : State) : Out := s.answerRequest l 0x30 (answerSelectRack l rack)

/-- UNLATCH BIN -/
def execUnlatchBin (l : Link) (slot : BitVec 8) (s : State) : Out := s.answerRequest l 0x31 (answerUnlatchBin l slot)

/-- RELATCH BIN -/
def execRelatchBin (l : Link) (slot : BitVec 8) (s : State) : Out := s.answerRequest l 0x32 (answerRelatchBin l slot)

/-- RELEASE RACK -/
def execReleaseRack (l : Link) (s : State) : Out := s.answerRequest l 0x33 (answerReleaseRack l)

/-- WITHDRAW BIN -/
def execWithdrawBin (l : Link) (bin : BitVec 8) (s : State) : Out := s.answerRequest l 0x34 (answerWithdrawBin bin)

/-- RESTORE BIN -/
def execRestoreBin (l : Link) (bin : BitVec 8) (s : State) : Out := s.answerRequest l 0x35 (answerRestoreBin bin)

/-- RACK INVENTORY -/
def execRackInventory (l : Link) (rack : BitVec 8) (s : State) : Out :=
  s.answerRequest l 0x36 (answerRackInventory rack)

/-- READ STRAYS -/
def execReadStrays (l : Link) (part : Option (BitVec 8)) (s : State) : Out :=
  s.answerRequest l 0x37 (answerReadStrays part)

/-- CLEAR STRAYS -/
def execClearStrays (l : Link) (count : Option (BitVec 8)) (s : State) : Out :=
  s.answerRequest l 0x38 (answerClearStrays count)

end Sys2Proof.Machine
end

