-- ==== Sys2Proof/Machine/Courier.lean ====
section
/-!
DEFINITION. The meanings of the manifest's requests, from the branch and from the crew (R175 to R189).
-/
namespace Sys2Proof.Machine

/-! ### Drawing up the list (R175 to R179) -/

/-- OPEN MANIFEST (R175): RANGE is tested before STATE (DESIGN CHOICE, log entry 52). -/
def answerOpenManifest (card : BitVec 48) (s : State) : State × Answer :=
  match cardOf card with
  | none => s.refused .range
  | some c =>
    if s.manifest.state = .empty ∨ s.manifest.state = .closed then
      State.ok { s with manifest := { emptyManifest with state := .building, card := some c } }
    else s.refused .state

/-- The manifest is BUILDING or SEALED (R176, R177). -/
def Manifest.isOpen (m : Manifest) : Bool := m.state == .building || m.state == .sealed

/-- The most entries a manifest holds (R174). -/
def maxEntries : Nat := 64

/-- Tests 4 to 6 of R176 on the record, in order; none when it passes. -/
def State.addRefusal (s : State) (r : BagRecord) : Option Status :=
  if r.state = .listed then some .duplicate
  else if r.state ≠ .held then some .state
  else if maxEntries ≤ s.manifest.entries.length then some .full
  else none

/-- A record is listed (R176, R18). -/
def State.listRecord (s : State) (r : BagRecord) (n : Nat) : State :=
  let t := s.modRecord r.tag (fun x => { x with state := .listed })
  { t with manifest := { t.manifest with entries := t.manifest.entries ++ [n] } }

/-- The reply that carries the number of entries (R176 to R178). -/
def State.entriesReply (s : State) : State × Answer := s.okWith (.entries s.manifest.entries.length)

/-- ADD (R176). -/
def answerAdd (receipt : BitVec 24) (s : State) : State × Answer :=
  match receiptOf receipt with
  | none => s.refused .range
  | some n =>
    if s.manifest.isOpen = false then s.refused .state
    else
      match s.findReceipt n with
      | none => s.refused .unknown
      | some r =>
        match s.addRefusal r with
        | some why => s.refused why
        | none => (s.listRecord r n).entriesReply

/-- A record is taken off the list (R177, R18). -/
def State.unlistRecord (s : State) (r : BagRecord) (n : Nat) : State :=
  let t := s.modRecord r.tag (fun x => { x with state := .held })
  { t with manifest := t.manifest.dropEntry n }

/-- REMOVE of a manifest entry (R177). -/
def answerRemoveManifestEntry (receipt : BitVec 24) (s : State) : State × Answer :=
  match receiptOf receipt with
  | none => s.refused .range
  | some n =>
    if s.manifest.isOpen = false then s.refused .state
    else
      match s.findReceipt n with
      | none => s.refused .unknown
      | some r => if r.state = .listed then (s.unlistRecord r n).entriesReply else s.refused .notListed

/-- SEAL (R178). -/
def answerSeal (s : State) : State × Answer :=
  if s.manifest.state = .building ∧ s.manifest.entries ≠ [] then
    State.entriesReply { s with manifest := { s.manifest with state := .sealed } }
  else s.refused .state

/-- CANCEL (R179). -/
def answerCancel (s : State) : State × Answer :=
  if s.manifest.state = .active then s.refused .state
  else
    State.okWith { s.manifest.entries.foldl State.delist s with manifest := emptyManifest }
      (.entries s.manifest.entries.length)

/-! ### Reading and closing (R181, R188, R189) -/

/-- The entries of READ MANIFEST in one reply (R198). -/
def manifestPerPart : Nat := 8

/-- One entry of READ MANIFEST (R181); the seen-at bin is told on the branch link alone. -/
def State.entryReport (s : State) (l : Link) (n : Nat) : Option ManifestEntryReport :=
  (s.findReceipt n).map (fun r =>
    { receipt := n, tag := r.tag, bin := r.bin, latch := r.bin.map (fun i => (s.bin i).latch),
      misrouteSuspect := r.flags.misrouteSuspect, seenAt := if l = .courier then none else r.seenAt })

/-- The card as READ MANIFEST reports it (R181). -/
def Manifest.cardReport (m : Manifest) (l : Link) : CardReport :=
  if l = .courier then .present m.card.isSome else .digits m.card

/-- The manifest report of a part (R181, R198). -/
def State.manifestReport (s : State) (l : Link) (part : Nat) : ManifestReport :=
  let m := s.manifest
  { part := part, parts := partCount m.entries.length manifestPerPart, state := m.state, card := m.cardReport l,
    released := m.released, withdrawn := m.withdrawn, returned := m.returned, start := m.start, finish := m.finish,
    count := m.entries.length,
    entries := ((m.entries.drop (part * manifestPerPart)).take manifestPerPart).filterMap (s.entryReport l) }

/-- READ MANIFEST (R181): the login (STATE) is tested before the part number (RANGE, R198) (DESIGN CHOICE, log entry
53). -/
def answerReadManifest (l : Link) (part : Option (BitVec 8)) (s : State) : State × Answer :=
  if s.crewAbsent l then s.refused .state
  else if partCount s.manifest.entries.length manifestPerPart ≤ partAsked part then s.refused .range
  else s.okWith (.manifest (s.manifestReport l (partAsked part)))

/-- CLOSE MANIFEST (R189). -/
def answerCloseManifest (s : State) : State × Answer :=
  if s.loggedIn then
    let t := s.closeManifest
    t.okWith (.counts t.manifest.released t.manifest.withdrawn t.manifest.returned)
  else s.refused .state

/-! ### The crew (R182, R184, R185, R188) -/

/-- A LOGIN that is taken (R182). -/
def State.logIn (s : State) : State :=
  State.setCourierRequest
    { s with manifest := { s.manifest with state := .active, start := some s.reading } } .courier

/-- LOGIN (R182). -/
def answerLogin (card : BitVec 48) (s : State) : State × Answer :=
  match cardOf card with
  | none => s.refused .range
  | some c =>
    if s.manifest.state ≠ .sealed then s.refused .state
    else if s.manifest.card ≠ some c then s.refused .unknown
    else
      let t := s.logIn
      t.okWith (.loggedIn t.manifest.entries.length t.levels.effective t.levels.raiseState)

/-- A LISTED record is released to the crew (R184, R19). -/
def State.release (s : State) (r : BagRecord) : State :=
  let t := (s.unplace r).modRecord r.tag (fun x => { x with state := .released, bin := none, seenAt := none })
  { t with manifest := { t.manifest.dropEntry (r.receipt.getD 0) with released := t.manifest.released + 1 } }

/-- A SCAN refused NOT LISTED (R185): the flag, and COURIER SCAN on the branch link. -/
def State.flagScan (s : State) (r : BagRecord) : State :=
  (s.modRecord r.tag (fun x => { x with flags := { x.flags with outOfManifestScan := true } })).notify
    .branch .courierScan

/-- The reply of a SCAN that is taken (R184), made from the state it leaves. -/
def State.scannedReply (s : State) (r : BagRecord) : State × Answer :=
  s.okWith (.scanned r.receipt r.bin s.manifest.entries.length s.manifest.released)

/-- SCAN (R184, R185). -/
def answerScan (tag : BitVec 40) (s : State) : State × Answer :=
  if s.loggedIn = false then s.refused .state
  else
    match tagOf tag with
    | none => s.refused .range
    | some t =>
      match s.findTag t with
      | none => s.refused .unknown
      | some r =>
        if r.state = .held then (s.flagScan r).refused .notListed
        else if r.state = .listed then (s.release r).scannedReply r
        else s.refused .state

/-- LOGOUT (R188). -/
def answerLogout (s : State) : State × Answer :=
  if s.loggedIn then
    let t := s.closeManifest
    t.okWith (.loggedOut t.manifest.released t.manifest.withdrawn t.manifest.returned t.levels.effective)
  else s.refused .state

/-- OPEN MANIFEST -/
def execOpenManifest (l : Link) (card : BitVec 48) (s : State) : Out := s.answerRequest l 0x50 (answerOpenManifest card)

/-- ADD -/
def execAdd (l : Link) (receipt : BitVec 24) (s : State) : Out := s.answerRequest l 0x51 (answerAdd receipt)

/-- REMOVE of a manifest entry -/
def execRemoveManifestEntry (l : Link) (receipt : BitVec 24) (s : State) : Out :=
  s.answerRequest l 0x52 (answerRemoveManifestEntry receipt)

/-- SEAL -/
def execSeal (l : Link) (s : State) : Out := s.answerRequest l 0x53 answerSeal

/-- CANCEL -/
def execCancel (l : Link) (s : State) : Out := s.answerRequest l 0x54 answerCancel

/-- CLOSE MANIFEST -/
def execCloseManifest (l : Link) (s : State) : Out := s.answerRequest l 0x55 answerCloseManifest

/-- READ MANIFEST -/
def execReadManifest (l : Link) (part : Option (BitVec 8)) (s : State) : Out :=
  s.answerRequest l 0x56 (answerReadManifest l part)

/-- LOGIN -/
def execLogin (l : Link) (card : BitVec 48) (s : State) : Out := s.answerRequest l 0x57 (answerLogin card)

/-- SCAN -/
def execScan (l : Link) (tag : BitVec 40) (s : State) : Out := s.answerRequest l 0x58 (answerScan tag)

/-- LOGOUT -/
def execLogout (l : Link) (s : State) : Out := s.answerRequest l 0x59 answerLogout

end Sys2Proof.Machine
end

