-- ==== Sys2Proof/Machine/LaneRequests.lean ====
section
/-!
DEFINITION. The meanings of the branch's requests to the lanes (R73 to R76) and of TRIAL CHECK (R88).
-/
namespace Sys2Proof.Machine

/-- The three active levels configured for a lane: lock, tip and return (R203). -/
def ActiveLevels.ofLane (a : ActiveLevels) (l : LaneId) : Bool × Bool × Bool :=
  (a.level l .lock, a.level l .tip, a.level l .ret)

/-- The receipt number of a lane's record in flight, if a route part is present (R76). -/
def State.inFlightReceipt (s : State) (l : LaneId) : Option Nat :=
  match (s.lane l).route with
  | some x =>
    match s.findTag x.record with
    | some r => r.receipt
    | none => none
  | none => none

/-- The bin of a lane's RESERVED record, if it has one (R76). -/
def State.reservedBin (s : State) (l : LaneId) : Option BinIdx :=
  match s.reservedOf l with
  | some r => r.bin
  | none => none

/-- The lane report (R76). -/
def State.laneReport (s : State) (l : LaneId) : LaneReport :=
  let x := s.lane l
  { state := x.state, reasons := x.reasons, returnReason := x.returnReason, bagLeft := x.bagLeft,
    inputs := x.inputs, outputsOn := (x.lock.on, x.tip.on, x.ret.on), activeLevels := s.config.active.ofLane l,
    session := x.session.map (fun y => (y.stage, y.capture)), inFlightReceipt := s.inFlightReceipt l,
    reservedBin := s.reservedBin l, holder := s.diverter.holder, lastServed := s.diverter.lastServed,
    waitingA := s.diverter.waitingA, waitingB := s.diverter.waitingB }

/-- LANE STATUS (R76). -/
def answerLaneStatus (l : LaneId) (s : State) : State × Answer := s.okWith (.laneStatus (s.laneReport l))

/-- LANE CLOSE (R73): BRANCH joins the set, acting as R51 gives. -/
def answerLaneClose (l : LaneId) (s : State) : State × Answer :=
  (s.addReason l (fun c => { c with branch := true })).ok

/-- The reasons that LANE OPEN removes (R73). -/
def CloseSet.opened (c : CloseSet) : CloseSet :=
  { c with branch := false, forced := false, jammed := false, diverter := false }

/-- LANE OPEN (R73). -/
def answerLaneOpen (l : LaneId) (s : State) : State × Answer :=
  if (s.lane l).state = .service ∨ (s.lane l).inputs.drawerForced = true then s.refused .state
  else (s.removeReasons l CloseSet.opened).okWith (.reasons (s.lane l).reasons.opened)

/-- LANE SERVICE is taken (R74): IDLE, CLOSED or JAMMED, with no RESERVED or IN_FLIGHT record and no route part. -/
def State.mayService (s : State) (l : LaneId) : Bool :=
  ((s.lane l).state == .idle || (s.lane l).state == .closed || (s.lane l).state == .jammed) &&
    !s.laneHasRecord l && (s.lane l).route.isNone

/-- LANE SERVICE (R74). -/
def answerLaneService (l : LaneId) (s : State) : State × Answer :=
  if s.mayService l then
    (((s.modLane l (fun x =>
      { x with reasons := { x.reasons with service := true }, lockGoal := none })).resetOutputs l).goClosed l).ok
  else s.refused .state

/-- LANE SERVICE END (R74). -/
def answerLaneServiceEnd (l : LaneId) (s : State) : State × Answer :=
  if (s.lane l).state = .service then
    ((s.resetOutputs l).removeReasons l (fun c => { c with service := false })).ok
  else s.refused .state

/-- The longest pulse of a LANE DRIVE (R75). -/
def maxDriveMs : Nat := 5000

/-- LANE DRIVE (R75): the range, the state, and the running pulse are tested in this order (log entry 10). -/
def answerLaneDrive (l : LaneId) (o : Actuator) (length : BitVec 16) (s : State) : State × Answer :=
  if maxDriveMs < length.toNat then s.refused .range
  else if (s.lane l).state ≠ .service then s.refused .state
  else if length.toNat = 0 then (s.resetOutput l o).okWith (.inputs (s.lane l).inputs)
  else if ((s.lane l).output o).pulseEnd.isSome then s.refused .busy
  else (s.startPulse l o length.toNat).okWith (.inputs (s.lane l).inputs)

/-- A capture as carried (R197): 0xFFFFFF is over-range; none for a mass above 65,535. -/
def captureOf (field : BitVec 24) : Option Reading :=
  if field.toNat = 0xFFFFFF then some .overRange
  else if field.toNat ≤ 65535 then some (.mass field.toNat)
  else none

/-- The three amounts lie in their ranges and steps (R78, R59). -/
def amountsOk (d : Declaration) : Bool :=
  d.notes ≤ 2500000 && d.notes % 500 == 0 && d.silver ≤ 500000 && d.silver % 5 == 0 && d.bronze ≤ 50000

/-- The trust a TRIAL CHECK names (R88): RANGE for a value above 3 and for both or neither, UNKNOWN for a VACANT
entry. -/
def State.trustOf (s : State) (src : TrustSource) : Except Status Nat :=
  match src.trust, src.index with
  | some t, none => if t.toNat ≤ 3 then .ok t.toNat else .error .range
  | none, some i =>
    match s.dep (depOf i) with
    | some d => .ok d.trust
    | none => .error .unknown
  | _, _ => .error .range

/-- TRIAL CHECK (R88). R88 does not order RANGE and UNKNOWN: every RANGE test is made first (DESIGN CHOICE, log entry
41). -/
def answerTrialCheck (notes silver bronze : BitVec 32) (capture : BitVec 24) (src : TrustSource) (s : State) :
    State × Answer :=
  let d : Declaration := { notes := notes.toNat, silver := silver.toNat, bronze := bronze.toNat }
  match captureOf capture with
  | none => s.refused .range
  | some reading =>
    if amountsOk d = false ∨ d.total = 0 then s.refused .range
    else
      match s.trustOf src with
      | .error why => s.refused why
      | .ok trust => s.okWith (.trial (acceptance s.config d reading trust))

/-- LANE STATUS -/
def execLaneStatus (l : Link) (lane : LaneId) (s : State) : Out := s.answerRequest l 0x10 (answerLaneStatus lane)

/-- LANE CLOSE -/
def execLaneClose (l : Link) (lane : LaneId) (s : State) : Out := s.answerRequest l 0x11 (answerLaneClose lane)

/-- LANE OPEN -/
def execLaneOpen (l : Link) (lane : LaneId) (s : State) : Out := s.answerRequest l 0x12 (answerLaneOpen lane)

/-- LANE SERVICE -/
def execLaneService (l : Link) (lane : LaneId) (s : State) : Out := s.answerRequest l 0x13 (answerLaneService lane)

/-- LANE SERVICE END -/
def execLaneServiceEnd (l : Link) (lane : LaneId) (s : State) : Out :=
  s.answerRequest l 0x14 (answerLaneServiceEnd lane)

/-- LANE DRIVE -/
def execLaneDrive (l : Link) (lane : LaneId) (output : Actuator) (length : BitVec 16) (s : State) : Out :=
  s.answerRequest l 0x15 (answerLaneDrive lane output length)

/-- TRIAL CHECK -/
def execTrialCheck (l : Link) (notes silver bronze : BitVec 32) (capture : BitVec 24) (source : TrustSource)
    (s : State) : Out :=
  s.answerRequest l 0x16 (answerTrialCheck notes silver bronze capture source)

end Sys2Proof.Machine
end

