-- ==== Sys2Proof/Machine/Records.lean ====
section
/-!
DEFINITION. The meanings of the branch's requests on records: the reads, TAKE BAG, PUT BACK, POST RESULT and RETIRE
(R158 to R167, R47).
-/
namespace Sys2Proof.Machine

/-! ### Reads (R166, R167, R47) -/

/-- The live record a key names (R158): RANGE for a key outside its form or range, UNKNOWN for one no record holds. -/
def State.findKey (s : State) (k : RecordKey) : Except Status BagRecord :=
  match k with
  | .tag packed =>
    match tagOf packed with
    | none => .error .range
    | some t =>
      match s.findTag t with
      | some r => .ok r
      | none => .error .unknown
  | .receipt n =>
    match receiptOf n with
    | none => .error .range
    | some m =>
      match s.findReceipt m with
      | some r => .ok r
      | none => .error .unknown

/-- A record's place in its bin's contents, counted from 1 (R166). -/
def State.placeOf (s : State) (r : BagRecord) : Option Nat :=
  match r.bin with
  | some i => if r.tag ∈ (s.bin i).contents then some ((s.bin i).contents.idxOf r.tag + 1) else none
  | none => none

/-- The record report (R166). -/
def State.recordReport (s : State) (r : BagRecord) : RecordReport :=
  { record := r, total := r.decl.total, place := s.placeOf r }

/-- READ RECORD (R166). -/
def answerReadRecord (k : RecordKey) (s : State) : State × Answer :=
  match s.findKey k with
  | .error why => s.refused why
  | .ok r => s.okWith (.record (s.recordReport r) s.live)

/-- One record of a bin's contents as a bin read names it (R47). -/
def State.contentReport (s : State) (t : Tag) : Option ContentReport :=
  (s.findTag t).map (fun r =>
    { receipt := r.receipt, lane := if r.state = .reserved then some r.lane else none, state := r.state })

/-- The bin report (R47). -/
def State.binReport (s : State) (i : BinIdx) : BinReport :=
  let b := s.bin i
  { index := i, rackClass := rackClass s.config.inspectRacks i, cls := b.cls, latch := b.latch, door := b.door,
    contents := b.contents.filterMap s.contentReport, massSum := b.massSum,
    overmass := b.overmass s.config.binMassLimit, room := 4 - b.contents.length, lastCheck := b.lastCheck,
    alloc := s.alloc, massLimit := s.config.binMassLimit }

/-- READ BIN (R167). -/
def answerReadBin (bin : BitVec 8) (s : State) : State × Answer :=
  match binOf bin with
  | none => s.refused .unknown
  | some i => s.okWith (.bin (s.binReport i))

/-- A lane's reservation with whether the lane is closed with POWER (R167). -/
def State.reservationReport (s : State) (l : LaneId) : Option (RecordReport × Bool) :=
  (s.reservedOf l).map (fun r => (s.recordReport r, (s.lane l).isClosed && (s.lane l).reasons.power))

/-- READ RESERVATIONS (R167, R198): part 0 lane A, part 1 lane B. -/
def answerReadReservations (part : Option (BitVec 8)) (s : State) : State × Answer :=
  match partAsked part with
  | 0 => s.okWith (.reservation 0 2 .a (s.reservationReport .a) s.live)
  | 1 => s.okWith (.reservation 1 2 .b (s.reservationReport .b) s.live)
  | _ => s.refused .range

/-! ### TAKE BAG (R159, R160) -/

/-- The state test and the latch test of R159. -/
def State.mayTake (s : State) (r : BagRecord) : Bool :=
  match r.state with
  | .held =>
    match r.bin with
    | some i => (s.bin i).latch == .unlatched || (s.bin i).latch == .unsecured
    | none => false
  | .missing => true
  | .astray => true
  | .listed => true
  | .reserved => false
  | .inFlight => false
  | .taken => false
  | .counted => false
  | .released => false

/-- A record is taken (R160, R20). -/
def State.take (s : State) (r : BagRecord) : State :=
  let t := if r.state = .listed then s.withdraw r else s
  (t.unplace r).modRecord r.tag (fun x => { x with state := .taken, bin := none, seenAt := none })

/-- What a TAKE BAG reports (R160). -/
def takenReport (r : BagRecord) : TakenReport :=
  { receipt := r.receipt, depositor := r.depositor, total := r.decl.total, decl := r.decl, mass := r.mass,
    decision := r.decision, holdClass := r.holdClass, flags := r.flags, stateLeft := r.state, binLeft := r.bin }

/-- TAKE BAG (R159). -/
def answerTakeBag (tag : BitVec 40) (s : State) : State × Answer :=
  match s.findKey (.tag tag) with
  | .error why => s.refused why
  | .ok r =>
    if s.levels.effective.rank < Level.inspect.rank then s.refused .level
    else if s.mayTake r then (s.take r).okWith (.taken (takenReport r))
    else s.refused .state

/-! ### PUT BACK (R162, R163) -/

/-- The bin lies in the rack of a selection owned by the branch (R162). -/
def State.inBranchRack (s : State) (i : BinIdx) : Bool :=
  match s.selection with
  | some x => x.owner == .branch && x.rack == rackOf i
  | none => false

/-- Tests 3 to 7 of R162, in order; none when all pass. -/
def State.putBackRefusal (s : State) (r : BagRecord) (i : BinIdx) : Option Status :=
  if r.state ≠ .taken then some .state
  else if (s.bin i).latch ≠ .unlatched then some .state
  else if s.inBranchRack i = false then some .state
  else if (s.bin i).op.isEngaging then some .busy
  else if (s.bin i).hasRoom = false then some .full
  else none

/-- A record is put back (R163, R21). -/
def State.putBack (s : State) (r : BagRecord) (i : BinIdx) : State :=
  (s.joinBin i r.tag r.mass).modRecord r.tag (fun x =>
    { x with state := .held, bin := some i, seenAt := none })

/-- The reply of a PUT BACK that is taken (R163), made from the state it leaves. -/
def State.putBackReply (s : State) (r : BagRecord) (i : BinIdx) : State × Answer :=
  s.okWith (.putBack r.receipt i (4 - (s.bin i).contents.length) (s.bin i).massSum
    ((s.bin i).overmass s.config.binMassLimit))

/-- PUT BACK (R162). -/
def answerPutBack (tag : BitVec 40) (bin : BitVec 8) (s : State) : State × Answer :=
  match s.findKey (.tag tag), binOf bin with
  | .error why, _ => s.refused why
  | .ok _, none => s.refused .unknown
  | .ok r, some i =>
    match s.putBackRefusal r i with
    | some why => s.refused why
    | none => (s.putBack r i).putBackReply r i

/-! ### POST RESULT (R164, R101) -/

/-- The difference of two amounts without its sign. -/
def difference (a b : Nat) : Nat := if a ≤ b then b - a else a - b

/-- The trust after a posting (R101). -/
def trustAfter (trust : Nat) (within : Bool) : Nat := if within then min 3 (trust + 1) else trust - 1

/-- The posted value agrees with the declared total within the count tolerance (R101). -/
def State.agrees (s : State) (r : BagRecord) (counted : Nat) : Bool :=
  difference r.decl.total counted ≤ s.config.countTolerance

/-- A result is written and the depositor's trust updated (R22, R101). -/
def State.post (s : State) (r : BagRecord) (counted : Nat) : State :=
  (s.modRecord r.tag (fun x =>
    { x with result := some counted, state := if x.state = .taken then .counted else x.state })).modDep r.depositor
      (fun e => { e with trust := trustAfter e.trust (s.agrees r counted) })

/-- The trust of a record's depositor. -/
def State.trustHeld (s : State) (r : BagRecord) : Nat :=
  match s.dep r.depositor with
  | some d => d.trust
  | none => 0

/-- What a POST RESULT reports (R164). -/
def State.postedReport (s : State) (r : BagRecord) (counted : Nat) : PostedReport :=
  { total := r.decl.total, counted := counted, difference := difference r.decl.total counted,
    within := s.agrees r counted, depositor := r.depositor, trustBefore := s.trustHeld r,
    trustAfter := (s.post r counted).trustHeld r }

/-- A result may be posted for a record (R164): it is TAKEN, or RELEASED without a result. -/
def BagRecord.awaitsResult (r : BagRecord) : Bool :=
  r.state == .taken || (r.state == .released && r.result.isNone)

/-- The greatest counted value (R164). -/
def maxCounted : Nat := 9999999

/-- POST RESULT (R164). -/
def answerPostResult (receipt : BitVec 24) (counted : BitVec 32) (s : State) : State × Answer :=
  if maxCounted < counted.toNat then s.refused .range
  else
    match s.findKey (.receipt receipt) with
    | .error why => s.refused why
    | .ok r =>
      if r.awaitsResult then (s.post r counted.toNat).okWith (.posted (s.postedReport r counted.toNat))
      else s.refused .state

/-! ### RETIRE (R165) -/

/-- A record is retired (R23, R100). -/
def State.retire (s : State) (r : BagRecord) : State := (s.lowerLive r.depositor).dropRecord r.tag

/-- A depositor's live count as a reply carries it. -/
def State.depositorLive (s : State) (i : DepIdx) : Nat :=
  match s.dep i with
  | some d => d.liveCount
  | none => 0

/-- The reply of a RETIRE that is taken (R165), made from the state it leaves. -/
def State.retiredReply (s : State) (r : BagRecord) : State × Answer :=
  s.okWith (.retired s.live (s.depositorLive r.depositor))

/-- RETIRE (R165). -/
def answerRetire (receipt : BitVec 24) (s : State) : State × Answer :=
  match s.findKey (.receipt receipt) with
  | .error why => s.refused why
  | .ok r =>
    if r.state = .counted ∨ r.state = .released then (s.retire r).retiredReply r else s.refused .state

/-- READ RECORD -/
def execReadRecord (l : Link) (key : RecordKey) (s : State) : Out := s.answerRequest l 0x40 (answerReadRecord key)

/-- READ BIN -/
def execReadBin (l : Link) (bin : BitVec 8) (s : State) : Out := s.answerRequest l 0x41 (answerReadBin bin)

/-- READ RESERVATIONS -/
def execReadReservations (l : Link) (part : Option (BitVec 8)) (s : State) : Out :=
  s.answerRequest l 0x42 (answerReadReservations part)

/-- TAKE BAG -/
def execTakeBag (l : Link) (tag : BitVec 40) (s : State) : Out := s.answerRequest l 0x46 (answerTakeBag tag)

/-- PUT BACK -/
def execPutBack (l : Link) (tag : BitVec 40) (bin : BitVec 8) (s : State) : Out :=
  s.answerRequest l 0x47 (answerPutBack tag bin)

/-- POST RESULT -/
def execPostResult (l : Link) (receipt : BitVec 24) (counted : BitVec 32) (s : State) : Out :=
  s.answerRequest l 0x48 (answerPostResult receipt counted)

/-- RETIRE -/
def execRetire (l : Link) (receipt : BitVec 24) (s : State) : Out := s.answerRequest l 0x49 (answerRetire receipt)

end Sys2Proof.Machine
end

