-- ==== Sys2Proof/Machine/Listing.lean ====
section
/-!
DEFINITION. The meanings of LIST, LIST NEXT and STOP LIST and the bursts they produce (R168 to R173, R198).
-/
namespace Sys2Proof.Machine

/-- A state's bit in the state set of a LIST (R197): the order of R2, RESERVED lowest. -/
def RecState.index : RecState → Nat
  | .reserved => 0
  | .inFlight => 1
  | .held => 2
  | .missing => 3
  | .astray => 4
  | .listed => 5
  | .taken => 6
  | .counted => 7
  | .released => 8

/-- The record holds every flag of a set (R169): MISROUTE-SUSPECT in the lowest bit, then OUT-OF-MANIFEST-SCAN and
RESTARTED. -/
def Flags.holds (f : Flags) (set : BitVec 8) : Bool :=
  (!set.getLsbD 0 || f.misrouteSuspect) && (!set.getLsbD 1 || f.outOfManifestScan) &&
    (!set.getLsbD 2 || f.restarted)

/-- A record matches a filter (R169). -/
def filterAccepts (f : ListFilter) (r : BagRecord) : Bool :=
  f.states.getLsbD r.state.index &&
    (match f.flags with
      | some set => r.flags.holds set
      | none => true) &&
    (match f.holdClass with
      | some c => r.holdClass == c
      | none => true) &&
    (match f.depositor with
      | some i => r.depositor == depOf i
      | none => true) &&
    (match f.result with
      | some wanted => r.result.isSome == wanted
      | none => true)

/-- Where a receipt number stands in a listing's order (R170, R171): its own value, or its distance round the circle
from the start. -/
def listPlace (order : ListOrder) (start n : Nat) : Nat :=
  match order with
  | .ascending => n
  | .wrap => if start ≤ n then n - start else n + 999999 - start

/-- The receipt number after a number, in a listing's order (R170, R171). -/
def listAfter (order : ListOrder) (n : Nat) : Nat :=
  match order with
  | .ascending => n + 1
  | .wrap => nextNumber n

/-- A listing entry of a record (R170). -/
def listEntry (r : BagRecord) : Option ListEntry :=
  r.receipt.map (fun n =>
    { receipt := n, state := r.state, bin := r.bin, mass := r.mass, lo := r.lo, hi := r.hi, decision := r.decision,
      holdClass := r.holdClass, flags := r.flags })

/-- The entries of the matching records, in the listing's order, from the next receipt number on (R170, R171). -/
def State.listed (s : State) (c : Cursor) : List ListEntry :=
  sortByKey (fun e => listPlace c.order c.start e.receipt)
    (((s.register.records.filter (filterAccepts c.filter)).filterMap listEntry).filter (fun e =>
      listPlace c.order c.start c.next ≤ listPlace c.order c.start e.receipt))

/-- The listing entries one reply carries (R198). -/
def entriesPerReply : Nat := 8

/-- The limit of a cursor's bursts (R170, R198). -/
def Cursor.limit (c : Cursor) : Nat := min c.burst entriesPerReply

/-- The next start after a burst, when MORE is set (R170, R171). -/
def nextStart (order : ListOrder) (taken : List ListEntry) : Option Nat :=
  taken.getLast?.map (fun e => listAfter order e.receipt)

/-- Replace the branch link's cursor. -/
def State.setCursor (s : State) (c : Option Cursor) : State := { s with branch := { s.branch with cursor := c } }

/-- A burst from a cursor (R170, R171): its entries, MORE, the next start and the live count; the cursor goes on from
the next start with a fresh idle expiry, or is CLOSED when nothing is left. -/
def State.burst (s : State) (c : Cursor) : State × Answer :=
  let found := s.listed c
  let taken := found.take c.limit
  if found.length ≤ c.limit then (s.setCursor none).okWith (.burst taken false none s.live)
  else
    let next := nextStart c.order taken
    (s.setCursor (some { c with next := next.getD c.next, idleEnd := s.now + listIdleMs })).okWith
      (.burst taken true next s.live)

/-- The filter is one a LIST may carry (R169): a non-empty state set without RESERVED. A bit that is no member is
refused too (DEDUCED, log entry 12). -/
def filterInRange (f : ListFilter) : Bool :=
  f.states != 0 && !f.states.getLsbD 0 && f.states.toNat < 512 &&
    (match f.flags with
      | some set => set.toNat < 8
      | none => true)

/-- LIST (R169). -/
def answerList (start : BitVec 24) (filter : ListFilter) (s : State) : State × Answer :=
  if s.branch.cursor.isSome then s.refused .busy
  else
    match receiptOf start with
    | none => s.refused .range
    | some n =>
      if filterInRange filter then
        s.burst { filter := filter, order := s.config.listOrder, burst := s.config.burstLength, start := n, next := n,
                  idleEnd := s.now + listIdleMs }
      else s.refused .range

/-- LIST NEXT (R172). -/
def answerListNext (s : State) : State × Answer :=
  match s.branch.cursor with
  | none => s.refused .state
  | some c => s.burst c

/-- STOP LIST (R173). -/
def answerStopList (s : State) : State × Answer :=
  match s.branch.cursor with
  | none => s.refused .state
  | some _ => (s.setCursor none).ok

/-- LIST -/
def execList (l : Link) (start : BitVec 24) (filter : ListFilter) (s : State) : Out :=
  s.answerRequest l 0x43 (answerList start filter)

/-- LIST NEXT -/
def execListNext (l : Link) (s : State) : Out := s.answerRequest l 0x44 answerListNext

/-- STOP LIST -/
def execStopList (l : Link) (s : State) : Out := s.answerRequest l 0x45 answerStopList

end Sys2Proof.Machine
end

