-- ==== Sys2Proof/Machine/Reads.lean ====
section
/-!
DEFINITION. The meanings of the reads carried on more than one link (R201, R121, R142, R157, R110, R204, R205,
R208). Each owner's answer stands beside the command's meaning.
-/
namespace Sys2Proof.Machine

/-- READ NOTICES (R201): the set is reported and emptied; the cause goes on the branch and security links. -/
def answerReadNotices (l : Link) (s : State) : State × Answer :=
  (s.setLink l { s.link l with notices := 0 }).okWith
    (.notices (s.link l).notices (if l = .courier then none else some s.lastStart))

/-- The raise as READ LEVEL reports it (R121). -/
def State.raiseReport (s : State) (r : Raise) : RaiseReport :=
  let finish := match r.phase with
    | .raising => r.delayEnd
    | .ready => r.confirmEnd.getD s.now
  { phase := r.phase, target := r.target, start := r.start, finish := momentAt s.clock finish,
    minutesLeft := minutesTo s.now finish, branchMayConfirm := s.levels.mayConfirm .branch,
    courierMayConfirm := s.levels.mayConfirm .courier }

/-- The level report (R121). -/
def State.levelReport (s : State) : LevelReport :=
  { effective := s.levels.effective, target := s.levels.target, ceiling := s.levels.ceiling,
    duress := s.levels.duress, allowance := s.levels.allowance, openSlots := s.openSlots,
    branchRequest := s.levels.branchRequest, courierRequest := s.levels.courierRequest, loggedIn := s.loggedIn,
    raise := s.levels.raise.map s.raiseReport }

/-- READ LEVEL (R121). -/
def answerReadLevel (s : State) : State × Answer := s.okWith (.level s.levelReport)

/-- The selection as READ RACK reports it (R142). -/
def State.selectionReport (s : State) (x : Selection) : SelectionReport :=
  { owner := x.owner, rack := x.rack, phase := x.phase, holdEnd := x.holdEnd.map (momentAt s.clock),
    minutesLeft := x.holdEnd.map (minutesTo s.now) }

/-- One bin as READ RACK reports it (R142): permission is told when its rack is the selected one. -/
def State.rackBinReport (s : State) (i : BinIdx) : RackBinReport :=
  { cls := (s.bin i).cls, latch := (s.bin i).latch, door := (s.bin i).door, op := (s.bin i).op
    permitted := match s.selection with
      | some x => if x.rack = rackOf i then some (s.permits x.owner (s.bin i)) else none
      | none => none }

/-- READ RACK (R142). -/
def answerReadRack (rack : BitVec 8) (s : State) : State × Answer :=
  match rackOfByte rack with
  | none => s.refused .unknown
  | some r =>
    s.okWith (.rack
      { grant := s.grant, selection := s.selection.map s.selectionReport, readRack := s.readRack
        bins := (rackBins r).map s.rackBinReport })

/-- The sweep report (R157). The seconds since a read began are rounded down (DESIGN CHOICE, log entry 46). -/
def State.sweepReport (s : State) : SweepReport :=
  { interval := s.config.verificationInterval, stepInterval := s.stepMs, threshold := s.overdueMs,
    pointer := s.sweep.pointer, pass := s.sweep.pass, step := s.sweep.step, pendingStep := s.sweep.pendingStep,
    nextExpiry := s.sweep.stepTimer.map (secondsTo s.now),
    read := s.sweep.read.map (fun r => (r.rack, r.asker, (s.now - r.startCount) / 1000)),
    ages := s.sweep.ages.items.map (fun ms => ms / 1000), overdue := s.sweep.overdue.items,
    strays := s.strays.entries.length, incomplete := s.strays.incomplete }

/-- READ SWEEP (R157). -/
def answerReadSweep (s : State) : State × Answer := s.okWith (.sweep s.sweepReport)

/-- READ WINDOWS (R110). -/
def answerReadWindows (s : State) : State × Answer :=
  s.okWith (.windows s.windows.items s.weekDay s.minuteOfDay s.levels.allowance)

/-- READ CONFIG (R204). -/
def answerReadConfig (s : State) : State × Answer := s.okWith (.config s.config)

/-- READ CLOCK (R205). -/
def answerReadClock (s : State) : State × Answer :=
  s.okWith (.clock s.reading s.clock.isSet s.weekDay s.minuteOfDay s.config.weekOffset)

/-- READ POWER (R208). -/
def answerReadPower (s : State) : State × Answer :=
  s.okWith (.power { state := s.power.state, batteryLow := s.power.batteryLow, lastStart := s.lastStart })

/-- READ NOTICES -/
def execReadNotices (l : Link) (s : State) : Out := s.answerRequest l 0x01 (answerReadNotices l)

/-- READ LEVEL -/
def execReadLevel (l : Link) (s : State) : Out := s.answerRequest l 0x02 answerReadLevel

/-- READ RACK -/
def execReadRack (l : Link) (rack : BitVec 8) (s : State) : Out := s.answerRequest l 0x03 (answerReadRack rack)

/-- READ SWEEP -/
def execReadSweep (l : Link) (s : State) : Out := s.answerRequest l 0x04 answerReadSweep

/-- READ WINDOWS -/
def execReadWindows (l : Link) (s : State) : Out := s.answerRequest l 0x05 answerReadWindows

/-- READ CONFIG -/
def execReadConfig (l : Link) (s : State) : Out := s.answerRequest l 0x06 answerReadConfig

/-- READ CLOCK -/
def execReadClock (l : Link) (s : State) : Out := s.answerRequest l 0x07 answerReadClock

/-- READ POWER -/
def execReadPower (l : Link) (s : State) : Out := s.answerRequest l 0x08 answerReadPower

end Sys2Proof.Machine
end

