-- ==== Sys2Proof/Machine/Settings.lean ====
section
/-!
DEFINITION. The meanings of SET CONFIG and SET CLOCK (R203 to R206, R38, R152).
-/
namespace Sys2Proof.Machine

/-! ### The fields of SET CONFIG (R203, R204) -/

/-- The six levels carried, when each is a level (R204). -/
def activeLevelsOf (v : CarriedLevels) : Option ActiveLevels :=
  match v.aLock, v.aTip, v.aReturn, v.bLock, v.bTip, v.bReturn with
  | some a, some b, some c, some d, some e, some f =>
    some { aLock := a, aTip := b, aReturn := c, bLock := d, bTip := e, bReturn := f }
  | _, _, _, _, _, _ => none

/-- The number of a field in the table of R203. -/
def fieldNumber : ConfigWrite → Nat
  | .verificationInterval _ => 1
  | .rackHoldMax _ => 2
  | .courierDelay _ => 3
  | .openingDelay _ => 4
  | .confirmWindow _ => 5
  | .rateWindow _ => 6
  | .countTolerance _ => 7
  | .scaleTolerance _ => 8
  | .margin _ => 9
  | .tareBand _ _ => 10
  | .silverDensity _ _ => 11
  | .bronzeDensity _ _ => 12
  | .binMassLimit _ => 13
  | .inspectRacks _ => 14
  | .burstLength _ => 15
  | .listOrder _ => 16
  | .weekOffset _ => 17
  | .activeLevels _ => 18

/-- A value lies between two bounds. -/
def between (low high value : Nat) : Bool := low ≤ value && value ≤ high

/-- A pair lies between two bounds and in order. -/
def pairBetween (low high a b : Nat) : Bool := between low high a && between low high b && a ≤ b

/-- The value carried is supported (R203, R204). -/
def writeSupported : ConfigWrite → Bool
  | .verificationInterval v => between 10 120 v.toNat
  | .rackHoldMax v => between 2 30 v.toNat
  | .courierDelay v => between 0 30 v.toNat
  | .openingDelay v => between 0 60 v.toNat
  | .confirmWindow v => between 1 15 v.toNat
  | .rateWindow v => between 15 240 v.toNat
  | .countTolerance v => between 0 10000 v.toNat
  | .scaleTolerance v => between 0 100 v.toNat
  | .margin v => between 0 500 v.toNat
  | .tareBand a b => pairBetween 0 5000 a.toNat b.toNat
  | .silverDensity a b => pairBetween 1 1000 a.toNat b.toNat
  | .bronzeDensity a b => pairBetween 1 5000 a.toNat b.toNat
  | .binMassLimit v => between 20000 200000 v.toNat
  | .inspectRacks v => between 1 2 v.toNat
  | .burstLength v => v.toNat == 1 || v.toNat == 4 || v.toNat == 8 || v.toNat == 16
  | .listOrder v => v.isSome
  | .weekOffset v => between 0 6 v.toNat
  | .activeLevels v => (activeLevelsOf v).isSome

/-- A field written with the value carried (R204). -/
def ConfigWord.put (c : ConfigWord) : ConfigWrite → ConfigWord
  | .verificationInterval v => { c with verificationInterval := v.toNat }
  | .rackHoldMax v => { c with rackHoldMax := v.toNat }
  | .courierDelay v => { c with courierDelay := v.toNat }
  | .openingDelay v => { c with openingDelay := v.toNat }
  | .confirmWindow v => { c with confirmWindow := v.toNat }
  | .rateWindow v => { c with rateWindow := v.toNat }
  | .countTolerance v => { c with countTolerance := v.toNat }
  | .scaleTolerance v => { c with scaleTolerance := v.toNat }
  | .margin v => { c with margin := v.toNat }
  | .tareBand a b => { c with tareMin := a.toNat, tareMax := b.toNat }
  | .silverDensity a b => { c with silverLow := a.toNat, silverHigh := b.toNat }
  | .bronzeDensity a b => { c with bronzeLow := a.toNat, bronzeHigh := b.toNat }
  | .binMassLimit v => { c with binMassLimit := v.toNat }
  | .inspectRacks v => { c with inspectRacks := v.toNat }
  | .burstLength v => { c with burstLength := v.toNat }
  | .listOrder v => { c with listOrder := v.getD .ascending }
  | .weekOffset v => { c with weekOffset := v.toNat }
  | .activeLevels v => { c with active := (activeLevelsOf v).getD defaultActiveLevels }

/-- A field written with its default (R203, R204). -/
def ConfigWord.putDefault (c : ConfigWord) : ConfigWrite → ConfigWord
  | .verificationInterval _ => { c with verificationInterval := defaultConfig.verificationInterval }
  | .rackHoldMax _ => { c with rackHoldMax := defaultConfig.rackHoldMax }
  | .courierDelay _ => { c with courierDelay := defaultConfig.courierDelay }
  | .openingDelay _ => { c with openingDelay := defaultConfig.openingDelay }
  | .confirmWindow _ => { c with confirmWindow := defaultConfig.confirmWindow }
  | .rateWindow _ => { c with rateWindow := defaultConfig.rateWindow }
  | .countTolerance _ => { c with countTolerance := defaultConfig.countTolerance }
  | .scaleTolerance _ => { c with scaleTolerance := defaultConfig.scaleTolerance }
  | .margin _ => { c with margin := defaultConfig.margin }
  | .tareBand _ _ => { c with tareMin := defaultConfig.tareMin, tareMax := defaultConfig.tareMax }
  | .silverDensity _ _ => { c with silverLow := defaultConfig.silverLow, silverHigh := defaultConfig.silverHigh }
  | .bronzeDensity _ _ => { c with bronzeLow := defaultConfig.bronzeLow, bronzeHigh := defaultConfig.bronzeHigh }
  | .binMassLimit _ => { c with binMassLimit := defaultConfig.binMassLimit }
  | .inspectRacks _ => { c with inspectRacks := defaultConfig.inspectRacks }
  | .burstLength _ => { c with burstLength := defaultConfig.burstLength }
  | .listOrder _ => { c with listOrder := defaultConfig.listOrder }
  | .weekOffset _ => { c with weekOffset := defaultConfig.weekOffset }
  | .activeLevels _ => { c with active := defaultConfig.active }

/-- One field carried is written: its value when supported, else its default (R204). -/
def ConfigWord.write (c : ConfigWord) (w : ConfigWrite) : ConfigWord :=
  if writeSupported w then c.put w else c.putDefault w

/-- The write of a field that counts: its last occurrence in the request (R204). -/
def lastWrite (writes : List ConfigWrite) (field : Nat) : Option ConfigWrite :=
  writes.reverse.find? (fun w => fieldNumber w == field)

/-- The Configuration Word with the fields carried written in ascending field number, each from its last
occurrence (R204). -/
def ConfigWord.writeAll (c : ConfigWord) (writes : List ConfigWrite) : ConfigWord :=
  (List.range 19).foldl (fun acc field =>
    match lastWrite writes field with
    | some w => acc.write w
    | none => acc) c

/-- The numbers of the defaulted fields in ascending order (R204). -/
def defaultedFields (writes : List ConfigWrite) : List Nat :=
  (List.range 19).filter (fun field => (lastWrite writes field).any (fun w => !writeSupported w))

/-! ### The consequences taken in the same event (R38, R152, R111) -/

/-- The bins of rack 6 take the new rack class, but those OUT_OF_SERVICE (R38). -/
def State.reclassify (s : State) : State :=
  (rackBins 6).foldl (fun x i => x.modBin i (fun b =>
    if b.cls = .outOfService then b else { b with cls := binClassOf (rackClass s.config.inspectRacks i) })) s

/-- A cursor outside its class's range is set to the first bin of that range (R38). -/
def Allocator.refit (a : Allocator) (inspectRacks : Nat) : Allocator :=
  { a with
    normalCursor := if rackClass inspectRacks a.normalCursor = .normal then a.normalCursor else 0
    inspectCursor := if rackClass inspectRacks a.inspectCursor = .inspect then a.inspectCursor
      else if inspectRacks = 2 then 96 else 112 }

/-- A change of INSPECT racks (R38). -/
def State.changeInspectRacks (s : State) : State :=
  let t := s.reclassify
  { t with alloc := t.alloc.refit s.config.inspectRacks }

/-- The Configuration Word becomes the new one, with the consequences of fields 1, 14 and 17 (R204), taken in that
order: rack 6 has its new class when a lowering that the week offset brings tests its bins (DESIGN CHOICE, log entry
45). -/
def State.configure (s : State) (c : ConfigWord) : State :=
  let t : State := { s with config := c }
  let overdue := if c.verificationInterval = s.config.verificationInterval then t else t.testAllOverdue
  let classed := if c.inspectRacks = s.config.inspectRacks then overdue else overdue.changeInspectRacks
  if c.weekOffset = s.config.weekOffset then classed else classed.recomputeAllowance

/-- SET CONFIG (R204); one that carries no field has no form a SET CONFIG takes (R195). -/
def answerSetConfig (writes : List ConfigWrite) (s : State) : State × Answer :=
  if writes = [] then s.refused .range
  else if s.levels.effective ≠ .opened then s.refused .level
  else (s.configure (s.config.writeAll writes)).okWith (.configSet (defaultedFields writes))

/-! ### SET CLOCK (R206) -/

/-- The step timer starts on a first setting when no INVENTORY pass is in progress (R206, R145). -/
def State.firstSetting (s : State) (wasSet : Bool) : State :=
  if wasSet || s.inInventory then s else s.startStepTimer

/-- The clock is set (R206): the reading moves and the counting does not. CLOCK leaves lane A before lane B (DESIGN
CHOICE, log entry 44). -/
def State.setClock (s : State) (day second : Nat) : State :=
  let t : State := { s with clock := { s.clock with day := day, second := second, isSet := true } }
  let lanes := (t.removeReasons .a (fun c => { c with clock := false })).removeReasons .b
    (fun c => { c with clock := false })
  lanes.recomputeAllowance.firstSetting s.clock.isSet

/-- SET CLOCK (R206): RANGE is tested before LEVEL (DESIGN CHOICE, log entry 55). -/
def answerSetClock (day : BitVec 16) (second : BitVec 24) (s : State) : State × Answer :=
  if 86399 < second.toNat then s.refused .range
  else if s.clock.isSet ∧ s.levels.effective ≠ .opened then s.refused .level
  else
    (s.setClock day.toNat second.toNat).okWith (.clockSet { day := day.toNat, second := second.toNat })

/-- SET CONFIG -/
def execSetConfig (l : Link) (writes : List ConfigWrite) (s : State) : Out :=
  s.answerRequest l 0x70 (answerSetConfig writes)

/-- SET CLOCK -/
def execSetClock (l : Link) (day : BitVec 16) (second : BitVec 24) (s : State) : Out :=
  s.answerRequest l 0x71 (answerSetClock day second)

end Sys2Proof.Machine
end

