-- ==== Sys2Proof/Machine/LinkEvents.lean ====
section
/-!
DEFINITION. The meanings of the Link Interface's own events: frames, gaps, replies, resets, characters and the line
condition (R191 to R195, R199).
-/
namespace Sys2Proof.Machine

/-! ### Frames, replies and gaps (R193, R195) -/

/-- The assembly of a link goes back to HUNT. -/
def State.hunt (s : State) (l : Link) : State := s.setLink l { s.link l with assembly := huntAt s.now }

/-- A partial frame stands in the assembly of a link that runs. -/
def State.assembling (s : State) (l : Link) : Bool := s.linkRuns l && (s.link l).assembly.phase != .hunt

/-- UNKNOWN REQUEST (R195): a code that the link does not carry; a code that it carries is no such frame. -/
def execUnknownRequest (l : Link) (code : BitVec 8) (s : State) : Out :=
  .next (if s.canTake l && !carries l code.toNat then s.reply l code.toNat (.refuse .unknownRequest) else s)

/-- FRAME DISCARD (R193) -/
def execFrameDiscard (l : Link) (s : State) : Out := .next (if s.assembling l then s.hunt l else s)

/-- The gap after the last character has passed 50 ms (R193). -/
def State.gapPassed (s : State) (l : Link) : Bool := (s.link l).assembly.lastEnd + gapMs < s.now

/-- LINK GAP TIMEOUT (R193) -/
def execLinkGapTimeout (l : Link) (s : State) : Out :=
  .next (if s.assembling l && s.gapPassed l then s.hunt l else s)

/-- REPLY SENT (R195) -/
def execReplySent (l : Link) (s : State) : Out :=
  .next (if s.linkRuns l then s.setLink l { s.link l with exchange := .idle } else s)

/-! ### Link reset and the line condition (R199) -/

/-- A break has lasted 100 ms and its reset has not been taken. -/
def State.breakOver (s : State) (l : Link) : Bool :=
  match (s.link l).line with
  | .space since false => since + breakMs ≤ s.now
  | _ => false

/-- The line condition with its break's reset taken. -/
def LineCondition.resetDone : LineCondition → LineCondition
  | .space since _ => .space since true
  | .mark => .mark

/-- A link after its reset (R199). -/
def LinkState.wasReset (x : LinkState) (now : Nat) : LinkState :=
  { assembly := huntAt now, exchange := .idle, line := x.line.resetDone, cursor := none, notices := 0 }

/-- A link reset (R199): on the courier port it logs a logged-in crew out, after the link state is reset (log
entry 14). -/
def State.resetLink (s : State) (l : Link) : State :=
  let t := s.setLink l ((s.link l).wasReset s.now)
  if l = .courier ∧ t.loggedIn = true then t.closeManifest else t

/-- LINK RESET (R199) -/
def execLinkReset (l : Link) (s : State) : Out :=
  .next (if s.linkRuns l && s.breakOver l then s.resetLink l else s)

/-- The line of a link enters a space that outlasts a character (R199). -/
def State.enterSpace (s : State) (l : Link) : State :=
  match (s.link l).line with
  | .mark => s.setLink l { s.link l with line := .space s.now false }
  | .space _ _ => s

/-- The line of a link returns to mark (R199): the assembly is in HUNT. -/
def State.returnToMark (s : State) (l : Link) : State :=
  match (s.link l).line with
  | .space _ _ => s.setLink l { s.link l with line := .mark, assembly := huntAt s.now }
  | .mark => s

/-- LINE CONDITION CHANGE (R199) -/
def execLineConditionChange (l : Link) (space : Bool) (s : State) : Out :=
  .next (if s.linkRuns l then (if space then s.enterSpace l else s.returnToMark l) else s)

/-! ### Characters (R192 to R195) -/

/-- The assembly after a good character that does not complete a frame (R193). -/
def Assembly.advance (a : Assembly) (c : Byte) (now : Nat) : Assembly :=
  match a.phase with
  | .hunt => if c = 0x7E then { phase := .length, bytes := [], lastEnd := now } else huntAt now
  | .length => if c.toNat ≤ 120 then { phase := .code, bytes := [c], lastEnd := now } else huntAt now
  | .code => { phase := if a.bytes = [0] then .check else .payload, bytes := a.bytes ++ [c], lastEnd := now }
  | .payload =>
    { phase := if (a.bytes.headD 0).toNat + 2 ≤ a.bytes.length + 1 then .check else .payload,
      bytes := a.bytes ++ [c], lastEnd := now }
  | .check => { phase := .check, bytes := a.bytes ++ [c], lastEnd := now }

/-- The assembly waits for the second check byte: it holds the length, the code, the payload and the first check
byte (R193). -/
def Assembly.lastAwaited (a : Assembly) : Bool :=
  a.phase == .check && a.bytes.length == (a.bytes.headD 0).toNat + 3

/-- The bytes over which the check runs: length, code and payload (R194). -/
def Assembly.checked (a : Assembly) : List Byte := a.bytes.dropLast

/-- The two check bytes agree with the check of R194. -/
def Assembly.agrees (a : Assembly) (last : Byte) : Bool :=
  crc a.checked == BitVec.ofNat 16 (numberOf [a.bytes.getLastD 0, last])

/-- The code of a complete frame. -/
def Assembly.code (a : Assembly) : Nat := (a.bytes.getD 1 0).toNat

/-- The payload of a complete frame. -/
def Assembly.payload (a : Assembly) : List Byte := a.checked.drop 2

/-- A request handed to its owner in the event that completes its frame (R195); the other commands are not
requests. -/
def runRequest (i : Instr) (s : State) : Out :=
  match i with
  | .readNotices link => Machine.execReadNotices link s
  | .readLevel link => Machine.execReadLevel link s
  | .readRack link rack => Machine.execReadRack link rack s
  | .readSweep link => Machine.execReadSweep link s
  | .readWindows link => Machine.execReadWindows link s
  | .readConfig link => Machine.execReadConfig link s
  | .readClock link => Machine.execReadClock link s
  | .readPower link => Machine.execReadPower link s
  | .laneStatus link lane => Machine.execLaneStatus link lane s
  | .laneClose link lane => Machine.execLaneClose link lane s
  | .laneOpen link lane => Machine.execLaneOpen link lane s
  | .laneService link lane => Machine.execLaneService link lane s
  | .laneServiceEnd link lane => Machine.execLaneServiceEnd link lane s
  | .laneDrive link lane output length => Machine.execLaneDrive link lane output length s
  | .trialCheck link notes silver bronze capture source => Machine.execTrialCheck link notes silver bronze capture source s
  | .requestLevel link level => Machine.execRequestLevel link level s
  | .confirm link => Machine.execConfirm link s
  | .setCeiling link level => Machine.execSetCeiling link level s
  | .raiseDuress link => Machine.execRaiseDuress link s
  | .clearDuress link => Machine.execClearDuress link s
  | .setWindow link slot days startMinute endMinute level => Machine.execSetWindow link slot days startMinute endMinute level s
  | .clearWindow link slot => Machine.execClearWindow link slot s
  | .selectRack link rack => Machine.execSelectRack link rack s
  | .unlatchBin link slot => Machine.execUnlatchBin link slot s
  | .relatchBin link slot => Machine.execRelatchBin link slot s
  | .releaseRack link => Machine.execReleaseRack link s
  | .withdrawBin link bin => Machine.execWithdrawBin link bin s
  | .restoreBin link bin => Machine.execRestoreBin link bin s
  | .rackInventory link rack => Machine.execRackInventory link rack s
  | .readStrays link part => Machine.execReadStrays link part s
  | .clearStrays link count => Machine.execClearStrays link count s
  | .readRecord link key => Machine.execReadRecord link key s
  | .readBin link bin => Machine.execReadBin link bin s
  | .readReservations link part => Machine.execReadReservations link part s
  | .list link start filter => Machine.execList link start filter s
  | .listNext link => Machine.execListNext link s
  | .stopList link => Machine.execStopList link s
  | .takeBag link tag => Machine.execTakeBag link tag s
  | .putBack link tag bin => Machine.execPutBack link tag bin s
  | .postResult link receipt counted => Machine.execPostResult link receipt counted s
  | .retire link receipt => Machine.execRetire link receipt s
  | .openManifest link card => Machine.execOpenManifest link card s
  | .add link receipt => Machine.execAdd link receipt s
  | .removeManifestEntry link receipt => Machine.execRemoveManifestEntry link receipt s
  | .sealManifest link => Machine.execSeal link s
  | .cancel link => Machine.execCancel link s
  | .closeManifest link => Machine.execCloseManifest link s
  | .readManifest link part => Machine.execReadManifest link part s
  | .login link card => Machine.execLogin link card s
  | .scan link tag => Machine.execScan link tag s
  | .logout link => Machine.execLogout link s
  | .enrol link card terms => Machine.execEnrol link card terms s
  | .edit link index card terms => Machine.execEdit link index card terms s
  | .suspend link index => Machine.execSuspend link index s
  | .restoreDepositor link index => Machine.execRestoreDepositor link index s
  | .removeDepositor link index => Machine.execRemoveDepositor link index s
  | .readDepositor link key => Machine.execReadDepositor link key s
  | .setConfig link writes => Machine.execSetConfig link writes s
  | .setClock link day second => Machine.execSetClock link day second s
  | .unknownRequest _ _ => .next s
  | .frameDiscard _ => .next s
  | .linkGapTimeout _ => .next s
  | .replySent _ => .next s
  | .linkReset _ => .next s
  | .cardRead _ _ => .next s
  | .cardRefusalExpiry _ => .next s
  | .keyPress _ _ => .next s
  | .keyTimerExpiry _ => .next s
  | .laneInputChange _ _ _ => .next s
  | .lockConfirmTimeout _ => .next s
  | .loadTimeout _ => .next s
  | .tagRead _ _ => .next s
  | .scaleSample _ _ => .next s
  | .weighTimeout _ => .next s
  | .positioningExpiry _ _ => .next s
  | .pulseExpiry _ _ => .next s
  | .entrySensorTrip _ => .next s
  | .arrivalReadComplete _ _ _ => .next s
  | .routeTimeout _ => .next s
  | .returnWaitExpiry _ => .next s
  | .doorChange _ _ => .next s
  | .latchReleased _ => .next s
  | .releaseTimeout _ => .next s
  | .latchEngaged _ => .next s
  | .engageTimeout _ => .next s
  | .pocketReadComplete _ _ => .next s
  | .holdExpiry => .next s
  | .stepTimerExpiry => .next s
  | .rackReadComplete _ => .next s
  | .rackOverdue _ => .next s
  | .newMinute => .next s
  | .raiseDelayExpiry => .next s
  | .confirmLapse => .next s
  | .listIdleExpiry => .next s
  | .mainsLoss => .next s
  | .mainsReturn _ _ => .next s
  | .batteryLow => .next s
  | .coldStart _ _ _ _ => .next s
  | .characterReceived _ _ _ => .next s
  | .lineConditionChange _ _ => .next s

/-- A complete frame is taken (R195): the code, then the form, are tested, and the request goes to its owner. -/
def State.takeFrame (s : State) (l : Link) (code : Nat) (payload : List Byte) : Out :=
  if carries l code then
    match parseRequest l code payload with
    | some i => runRequest i s
    | none => .next (s.reply l code (.refuse .range))
  else .next (s.reply l code (.refuse .unknownRequest))

/-- A good character (R193): it advances the assembly, or completes a frame whose check decides. -/
def State.takeCharacter (s : State) (l : Link) (c : Byte) : Out :=
  let a := (s.link l).assembly
  if a.lastAwaited then
    if a.agrees c then (s.hunt l).takeFrame l a.code a.payload else .next (s.hunt l)
  else .next (s.setLink l { s.link l with assembly := a.advance c s.now })

/-- CHARACTER RECEIVED (R193): not taken on a stopped link or while a reply is being sent; a framing error discards
the partial frame; no good character is received while the line is at space (R199). -/
def execCharacterReceived (l : Link) (character : Byte) (framingError : Bool) (s : State) : Out :=
  if s.linkRuns l && (s.link l).exchange == .idle then
    if framingError then .next (s.hunt l)
    else if (s.link l).line = .mark then s.takeCharacter l character
    else .next s
  else .next s

end Sys2Proof.Machine
end

