-- ==== Sys2Proof/Machine/PowerEvents.lean ====
section
/-!
DEFINITION. The meanings of the Power Supervisor's events: the loss and return of mains, battery low, and the cold
start (R208 to R212), with each block's own part of them.
-/
namespace Sys2Proof.Machine

/-! ### Loss of mains (R208) -/

/-- Both lanes' waiting requests are withdrawn, then each lane is closed at once (R52, R72; log entry 13). -/
def State.closeLanes (s : State) : State :=
  (((s.withdrawRequest .a).withdrawRequest .b).closeAtOnce .a false).closeAtOnce .b false

/-- MAINS to BATTERY (R208): an INVENTORY pass in progress ends unfinished, and the step timer then starts. A
battery-low condition that still stands from an earlier time does not lead on to RETENTION by itself: BATTERY LOW is 1 s
below the holding level on BATTERY (log entry 62). -/
def State.loseMains (s : State) : State :=
  let t : State := { s with power := { s.power with state := .battery, mainsPresent := false } }
  let closed := t.closeLanes
  let timed := if s.inInventory then closed.startStepTimer else closed
  timed.notify .security .power

/-- MAINS LOSS (R208) -/
def execMainsLoss (s : State) : Out := .next (if s.onMains then s.loseMains else s)

/-! ### Return of mains (R208, R209) -/

/-- A bit of the doors found: OPEN when set. -/
def doorFound (doors : BitVec 128) (i : BinIdx) : Door := if doors.getLsbD i.val then .opened else .closed

/-- A bin's door is taken afresh (R125). -/
def Bin.retakeDoor (b : Bin) (d : Door) : Bin := { b with door := d, doorFilter := (d, d) }

/-- A bin at the return from RETENTION (R143): no operation is in progress; an UNSECURED bin found CLOSED relatches
itself, a LATCHED bin found OPEN becomes UNSECURED. -/
def State.returnBin (doors : BitVec 128) (s : State) (i : BinIdx) : State :=
  let t := s.modBin i (fun b => { b.retakeDoor (doorFound doors i) with op := .idle })
  match (s.bin i).latch, doorFound doors i with
  | .unsecured, .closed => t.beginEngage i false
  | .latched, .opened => t.makeUnsecured i
  | _, _ => t

/-- The branch link and the courier port start as at a cold start (R202). -/
def State.startLinks (s : State) (links : RestartLines) : State :=
  { s with branch := startedLink s.now links.branchSpace, courier := startedLink s.now links.courierSpace }

/-- The stopped blocks start again (R209): links, lanes and bins. -/
def State.leaveRetention (s : State) (cabinet : CabinetLines) (links : RestartLines) : State :=
  (List.finRange 128).foldl (State.returnBin cabinet.doorsOpen)
    (((s.startLinks links).takeInputs .a cabinet.inputsA).takeInputs .b cabinet.inputsB)

/-- BATTERY or RETENTION to MAINS (R208): the return of R209, the overdue test of R152, and the INVENTORY pass. The
battery-low condition, sampled only on BATTERY, stays as it stands. -/
def State.regainMains (s : State) (cabinet : CabinetLines) (links : RestartLines) : State :=
  let t : State := { s with power := { s.power with state := .mains (.inventory 0 false), mainsPresent := true } }
  let restarted := if s.inRetention then t.leaveRetention cabinet links else t
  restarted.testAllOverdue.beginInventory.notify .security .power

/-- MAINS RETURN (R208) -/
def execMainsReturn (cabinet : CabinetLines) (links : RestartLines) (s : State) : Out :=
  .next (if s.onMains then s else s.regainMains cabinet links)

/-! ### Entry into RETENTION (R209) -/

/-- The courier is logged out (R190). -/
def State.logOutCrew (s : State) : State := if s.loggedIn then s.closeManifest else s

/-- The Level Arbiter at the entry (R122): both requests at their lowest, no raise, and the target recomputed. -/
def State.dropRequests (s : State) : State :=
  State.arbitrate
    { s with levels := { s.levels with branchRequest := .sealed, courierRequest := .nothing, raise := none } }
    s.levels

/-- A lane at the entry (R52, R209): no session and no route, every timer stopped and every output reset. -/
def State.stopLane (s : State) (l : LaneId) : State :=
  ((s.modLane l (fun x => { x with route := none, lockGoal := none })).resetOutputs l).goClosed l

/-- A bin at the entry (R143): its operation and its pocket reads are abandoned; a bin whose operation is abandoned
becomes UNSECURED, with BIN UNSECURED, unless it is in FAULT. -/
def State.abandonBin (s : State) (i : BinIdx) : State :=
  let t := s.modBin i (fun b => { b with op := .idle, pocketReads := [] })
  if (s.bin i).op = .idle ∨ (s.bin i).latch = .fault then t else t.makeUnsecured i

/-- The Sweep Unit at the entry (R153): pointer, pass number, ages and marks are kept. -/
def Sweep.stopped (w : Sweep) : Sweep :=
  { w with stepTimer := none, step := .timing, pendingStep := false, read := none }

/-- A link that stops (R202). -/
def LinkState.stopped (x : LinkState) (now : Nat) : LinkState :=
  { x with assembly := huntAt now, exchange := .idle, cursor := none, notices := 0 }

/-- The register, the lanes, the diverter, the bins, the sweep and the two links stop (R209). -/
def State.stopBlocks (s : State) : State :=
  let lost := s.loseInFlight
  let lanes := (lost.stopLane .a).stopLane .b
  let bins := (List.finRange 128).foldl State.abandonBin lanes
  { bins with
    diverter := { bins.diverter with holder := none, waitingA := false, waitingB := false }
    selection := none
    sweep := bins.sweep.stopped
    strays := noStrays
    branch := bins.branch.stopped bins.now
    courier := bins.courier.stopped bins.now }

/-- BATTERY to RETENTION (R208, R209). -/
def State.enterRetention (s : State) : State :=
  let t : State := { s with power := { s.power with state := .retention, batteryLow := true } }
  (t.notify .security .power).logOutCrew.dropRequests.stopBlocks

/-- BATTERY LOW (R208); the condition is sampled only on BATTERY. -/
def execBatteryLow (s : State) : Out :=
  .next (match s.power.state with
    | .battery => s.enterRetention
    | _ => s)

/-! ### Cold start (R212) -/

/-- The power state after a start, from the two conditions as they stand (R212). -/
def startPower (mains batteryLow : Bool) : PowerState :=
  if mains then .mains (.inventory 0 false) else if batteryLow then .retention else .battery

/-- The close-reason set after a start with valid retention (R54). -/
def CloseSet.kept (c : CloseSet) (clockSet : Bool) : CloseSet :=
  { c with level := false, power := true, clock := !clockSet, service := false }

/-- A lane after a start (R54), its inputs as found. -/
def State.startedLane (s : State) (l : LaneId) (reasons : CloseSet) (inputs : LaneInputs) : Lane :=
  coldLane reasons (closedState reasons) inputs (s.config.active.level l .lock) (s.config.active.level l .tip)
    (s.config.active.level l .ret)

/-- The retained storage as a start with valid retention leaves it (R25, R190): IN_FLIGHT records ASTRAY, an ACTIVE
manifest closed. -/
def State.keptStorage (s : State) : State := if s.loggedIn then s.loseInFlight.returnEntries else s.loseInFlight

/-- The retained storage as an initialisation leaves it (R26, R49, R103, R123, R190, R203, R205, R212). -/
def State.initialised (s : State) : State :=
  { s with
    clock := unsetClock, config := defaultConfig, register := emptyRegister
    bins := Table.ofFn (fun i => { coldBin (State.resetClass i) 0 with op := .idle })
    alloc := freshAllocator, depositors := Table.const 256 none, windows := Table.const 8 none
    manifest := emptyManifest
    levels := sealedArbiter false
    sweep := stoppedSweep 0 0
    laneA := { s.laneA with reasons := noReasons }
    laneB := { s.laneB with reasons := noReasons } }

/-- The volatile state of every block after a start (R54, R71, R123, R124, R144, R154, R202, R207). -/
def State.volatileStart (s : State) (kept mains batteryLow : Bool) (lines : FieldLines) : State :=
  let t : State :=
    { s with
      power := { state := startPower mains batteryLow, mainsPresent := mains, batteryLow := batteryLow }
      marker := true
      laneA := s.startedLane .a (s.laneA.reasons.kept s.clock.isSet) lines.inputsA
      laneB := s.startedLane .b (s.laneB.reasons.kept s.clock.isSet) lines.inputsB
      diverter := idleDiverter
      levels := sealedArbiter s.levels.duress
      selection := none
      sweep := stoppedSweep s.sweep.pointer s.sweep.pass
      strays := noStrays
      branch := startedLink s.now lines.branchSpace
      security := startedLink s.now lines.securitySpace
      courier := startedLink s.now lines.courierSpace
      lastStart := if kept then .retentionKept else .retentionLost }
  { t with levels := { t.levels with allowance := t.allowanceNow } }

/-- A bin at a start (R48, R49): its door is taken afresh and no operation is in progress; then it is relatched, made
UNSECURED, or left as it is. No latch is driven in RETENTION (R143). A pocket read of a relatch that is in progress is
abandoned with no bin check, as R143 has it for the entry into RETENTION; no rule says so of a start (DESIGN CHOICE, log
entry 58). -/
def State.startBin (doors : BitVec 128) (s : State) (i : BinIdx) : State :=
  let t := s.modBin i (fun b => { b.retakeDoor (doorFound doors i) with op := .idle, pocketReads := [] })
  match (s.bin i).latch, doorFound doors i with
  | .fault, _ => t
  | .latched, .closed => t
  | .latched, .opened => t.makeUnsecured i
  | .unlatched, .closed => if s.inRetention then t.makeUnsecured i else t.beginEngage i false
  | .unsecured, .closed => if s.inRetention then t.makeUnsecured i else t.beginEngage i false
  | .unlatched, .opened => t.makeUnsecured i
  | .unsecured, .opened => t.makeUnsecured i

/-- The lanes judge the inputs they have taken (R55), unless the start leaves them stopped. -/
def State.judgeInputs (s : State) (lines : FieldLines) : State :=
  if s.inRetention then s else (s.takeInputs .a lines.inputsA).takeInputs .b lines.inputsB

/-- The sweep after a start (R145, R210): the INVENTORY pass on MAINS, the step timer on BATTERY. -/
def State.startSweep (s : State) : State :=
  match s.power.state with
  | .mains _ => s.beginInventory
  | .battery => s.startStepTimer
  | .retention => s

/-- A cold start (R212): the retained storage kept or initialised, the volatile state, RESTART on the branch and
security links, and the start's own events. -/
def State.coldStart (s : State) (retentionHeld mains batteryLow : Bool) (lines : FieldLines) : State :=
  let kept := s.marker && retentionHeld
  let stored := if kept then s.keptStorage else s.initialised
  let started := stored.volatileStart kept mains batteryLow lines
  let noted := (started.notify .security .restart).notify .branch .restart
  let bins := (List.finRange 128).foldl (State.startBin lines.doorsOpen) noted
  (bins.judgeInputs lines).startSweep

/-- COLD START (R212) -/
def execColdStart (retentionHeld mains batteryLow : Bool) (lines : FieldLines) (s : State) : Out :=
  .next (s.coldStart retentionHeld mains batteryLow lines)

end Sys2Proof.Machine
end

