-- ==== Sys2Proof/Machine/TimeEvents.lean ====
section
/-!
DEFINITION. The meanings of the events of the Sweep Unit, the Time-Lock Table, the Level Arbiter and the listing
cursor that time brings (R145, R148, R152, R111, R117, R119, R173).
-/
namespace Sys2Proof.Machine

/-! ### The sweep (R145, R148, R152) -/

/-- The step timer has expired: it restarts at once, and a step falls due or becomes pending (R145). -/
def State.stepExpired (s : State) : State :=
  let t : State := { s with sweep := { s.sweep with stepTimer := some (s.now + s.stepMs) } }
  if s.sweep.step = .timing then t.judgeStep
  else { t with sweep := { t.sweep with pendingStep := true } }

/-- STEP TIMER EXPIRY (R145) -/
def execStepTimerExpiry (s : State) : Out := .next (if due s.sweep.stepTimer s.now then s.stepExpired else s)

/-- A rack read completes (R148): the sixteen checks, the rack's age and mark, and what its asker does next. -/
def State.readComplete (s : State) (r : ReadPart) (seen : List (List Tag)) : State :=
  let t := s.checkRack r.rack seen
  State.finishRead { t with sweep := t.sweep.readDone r.rack } r.asker

/-- RACK READ COMPLETE (R148), 2 s after the read began. -/
def execRackReadComplete (seen : List (List Tag)) (s : State) : Out :=
  .next (match s.sweep.read with
    | some r => if r.startCount + rackReadMs ≤ s.now then s.readComplete r seen else s
    | none => s)

/-- RACK OVERDUE (R152) -/
def execRackOverdue (rack : RackIdx) (s : State) : Out := .next (s.testOverdue rack)

/-! ### Levels (R111, R117, R119) -/

/-- NEW MINUTE (R111) -/
def execNewMinute (s : State) : Out := .next s.recomputeAllowance

/-- RAISE DELAY EXPIRY (R117) -/
def execRaiseDelayExpiry (s : State) : Out :=
  .next (match s.levels.raise with
    | some r => if r.phase = .raising ∧ r.delayEnd ≤ s.now then s.becomeReady r else s
    | none => s)

/-- The arbiter with the requests of the masters that could have confirmed set back, and no raise (R119). -/
def LevelArbiter.lapsed (a : LevelArbiter) : LevelArbiter :=
  { a with
    branchRequest := if a.mayConfirm .branch then a.effective else a.branchRequest
    courierRequest := if a.mayConfirm .courier then .nothing else a.courierRequest
    raise := none }

/-- A lapse (R119): the requests set back and the target recomputed. -/
def State.lapse (s : State) : State := State.arbitrate { s with levels := s.levels.lapsed } s.levels

/-- The confirm window of a READY raise has run out. -/
def State.confirmOver (s : State) : Bool :=
  match s.levels.raise with
  | some r => r.phase == .ready && due r.confirmEnd s.now
  | none => false

/-- CONFIRM LAPSE (R119) -/
def execConfirmLapse (s : State) : Out := .next (if s.confirmOver then s.lapse else s)

/-! ### Listings (R173) -/

/-- The idle expiry of the open listing has come. -/
def State.listIdle (s : State) : Bool := due (s.branch.cursor.map (fun c => c.idleEnd)) s.now

/-- LIST IDLE EXPIRY (R173) -/
def execListIdleExpiry (s : State) : Out := .next (if s.listIdle then s.setCursor none else s)

end Sys2Proof.Machine
end

