-- ==== Sys2Proof/Machine/Dispatch.lean ====
section
/-! DEFINITION. The meaning of each command: one arm for each row of the table. -/
namespace Sys2Proof.Machine

def exec (i : Instr) (s : State) : Host.Outcome State Fault Refusal :=
  match i with
  | .readNotices link => Sys2Proof.Machine.execReadNotices link s
  | .readLevel link => Sys2Proof.Machine.execReadLevel link s
  | .readRack link rack => Sys2Proof.Machine.execReadRack link rack s
  | .readSweep link => Sys2Proof.Machine.execReadSweep link s
  | .readWindows link => Sys2Proof.Machine.execReadWindows link s
  | .readConfig link => Sys2Proof.Machine.execReadConfig link s
  | .readClock link => Sys2Proof.Machine.execReadClock link s
  | .readPower link => Sys2Proof.Machine.execReadPower link s
  | .laneStatus link lane => Sys2Proof.Machine.execLaneStatus link lane s
  | .laneClose link lane => Sys2Proof.Machine.execLaneClose link lane s
  | .laneOpen link lane => Sys2Proof.Machine.execLaneOpen link lane s
  | .laneService link lane => Sys2Proof.Machine.execLaneService link lane s
  | .laneServiceEnd link lane => Sys2Proof.Machine.execLaneServiceEnd link lane s
  | .laneDrive link lane output length => Sys2Proof.Machine.execLaneDrive link lane output length s
  | .trialCheck link notes silver bronze capture source => Sys2Proof.Machine.execTrialCheck link notes silver bronze capture source s
  | .requestLevel link level => Sys2Proof.Machine.execRequestLevel link level s
  | .confirm link => Sys2Proof.Machine.execConfirm link s
  | .setCeiling link level => Sys2Proof.Machine.execSetCeiling link level s
  | .raiseDuress link => Sys2Proof.Machine.execRaiseDuress link s
  | .clearDuress link => Sys2Proof.Machine.execClearDuress link s
  | .setWindow link slot days startMinute endMinute level => Sys2Proof.Machine.execSetWindow link slot days startMinute endMinute level s
  | .clearWindow link slot => Sys2Proof.Machine.execClearWindow link slot s
  | .selectRack link rack => Sys2Proof.Machine.execSelectRack link rack s
  | .unlatchBin link slot => Sys2Proof.Machine.execUnlatchBin link slot s
  | .relatchBin link slot => Sys2Proof.Machine.execRelatchBin link slot s
  | .releaseRack link => Sys2Proof.Machine.execReleaseRack link s
  | .withdrawBin link bin => Sys2Proof.Machine.execWithdrawBin link bin s
  | .restoreBin link bin => Sys2Proof.Machine.execRestoreBin link bin s
  | .rackInventory link rack => Sys2Proof.Machine.execRackInventory link rack s
  | .readStrays link part => Sys2Proof.Machine.execReadStrays link part s
  | .clearStrays link count => Sys2Proof.Machine.execClearStrays link count s
  | .readRecord link key => Sys2Proof.Machine.execReadRecord link key s
  | .readBin link bin => Sys2Proof.Machine.execReadBin link bin s
  | .readReservations link part => Sys2Proof.Machine.execReadReservations link part s
  | .list link start filter => Sys2Proof.Machine.execList link start filter s
  | .listNext link => Sys2Proof.Machine.execListNext link s
  | .stopList link => Sys2Proof.Machine.execStopList link s
  | .takeBag link tag => Sys2Proof.Machine.execTakeBag link tag s
  | .putBack link tag bin => Sys2Proof.Machine.execPutBack link tag bin s
  | .postResult link receipt counted => Sys2Proof.Machine.execPostResult link receipt counted s
  | .retire link receipt => Sys2Proof.Machine.execRetire link receipt s
  | .openManifest link card => Sys2Proof.Machine.execOpenManifest link card s
  | .add link receipt => Sys2Proof.Machine.execAdd link receipt s
  | .removeManifestEntry link receipt => Sys2Proof.Machine.execRemoveManifestEntry link receipt s
  | .sealManifest link => Sys2Proof.Machine.execSeal link s
  | .cancel link => Sys2Proof.Machine.execCancel link s
  | .closeManifest link => Sys2Proof.Machine.execCloseManifest link s
  | .readManifest link part => Sys2Proof.Machine.execReadManifest link part s
  | .login link card => Sys2Proof.Machine.execLogin link card s
  | .scan link tag => Sys2Proof.Machine.execScan link tag s
  | .logout link => Sys2Proof.Machine.execLogout link s
  | .enrol link card terms => Sys2Proof.Machine.execEnrol link card terms s
  | .edit link index card terms => Sys2Proof.Machine.execEdit link index card terms s
  | .suspend link index => Sys2Proof.Machine.execSuspend link index s
  | .restoreDepositor link index => Sys2Proof.Machine.execRestoreDepositor link index s
  | .removeDepositor link index => Sys2Proof.Machine.execRemoveDepositor link index s
  | .readDepositor link key => Sys2Proof.Machine.execReadDepositor link key s
  | .setConfig link writes => Sys2Proof.Machine.execSetConfig link writes s
  | .setClock link day second => Sys2Proof.Machine.execSetClock link day second s
  | .unknownRequest link code => Sys2Proof.Machine.execUnknownRequest link code s
  | .frameDiscard link => Sys2Proof.Machine.execFrameDiscard link s
  | .linkGapTimeout link => Sys2Proof.Machine.execLinkGapTimeout link s
  | .replySent link => Sys2Proof.Machine.execReplySent link s
  | .linkReset link => Sys2Proof.Machine.execLinkReset link s
  | .cardRead lane card => Sys2Proof.Machine.execCardRead lane card s
  | .cardRefusalExpiry lane => Sys2Proof.Machine.execCardRefusalExpiry lane s
  | .keyPress lane key => Sys2Proof.Machine.execKeyPress lane key s
  | .keyTimerExpiry lane => Sys2Proof.Machine.execKeyTimerExpiry lane s
  | .laneInputChange lane input value => Sys2Proof.Machine.execLaneInputChange lane input value s
  | .lockConfirmTimeout lane => Sys2Proof.Machine.execLockConfirmTimeout lane s
  | .loadTimeout lane => Sys2Proof.Machine.execLoadTimeout lane s
  | .tagRead lane result => Sys2Proof.Machine.execTagRead lane result s
  | .scaleSample lane sample => Sys2Proof.Machine.execScaleSample lane sample s
  | .weighTimeout lane => Sys2Proof.Machine.execWeighTimeout lane s
  | .positioningExpiry lane atBin => Sys2Proof.Machine.execPositioningExpiry lane atBin s
  | .pulseExpiry lane output => Sys2Proof.Machine.execPulseExpiry lane output s
  | .entrySensorTrip lane => Sys2Proof.Machine.execEntrySensorTrip lane s
  | .arrivalReadComplete lane seen printerFault => Sys2Proof.Machine.execArrivalReadComplete lane seen printerFault s
  | .routeTimeout lane => Sys2Proof.Machine.execRouteTimeout lane s
  | .returnWaitExpiry lane => Sys2Proof.Machine.execReturnWaitExpiry lane s
  | .doorChange bin door => Sys2Proof.Machine.execDoorChange bin door s
  | .latchReleased bin => Sys2Proof.Machine.execLatchReleased bin s
  | .releaseTimeout bin => Sys2Proof.Machine.execReleaseTimeout bin s
  | .latchEngaged bin => Sys2Proof.Machine.execLatchEngaged bin s
  | .engageTimeout bin => Sys2Proof.Machine.execEngageTimeout bin s
  | .pocketReadComplete bin seen => Sys2Proof.Machine.execPocketReadComplete bin seen s
  | .holdExpiry => Sys2Proof.Machine.execHoldExpiry s
  | .stepTimerExpiry => Sys2Proof.Machine.execStepTimerExpiry s
  | .rackReadComplete seen => Sys2Proof.Machine.execRackReadComplete seen s
  | .rackOverdue rack => Sys2Proof.Machine.execRackOverdue rack s
  | .newMinute => Sys2Proof.Machine.execNewMinute s
  | .raiseDelayExpiry => Sys2Proof.Machine.execRaiseDelayExpiry s
  | .confirmLapse => Sys2Proof.Machine.execConfirmLapse s
  | .listIdleExpiry => Sys2Proof.Machine.execListIdleExpiry s
  | .mainsLoss => Sys2Proof.Machine.execMainsLoss s
  | .mainsReturn cabinet links => Sys2Proof.Machine.execMainsReturn cabinet links s
  | .batteryLow => Sys2Proof.Machine.execBatteryLow s
  | .coldStart retentionHeld mains batteryLow lines => Sys2Proof.Machine.execColdStart retentionHeld mains batteryLow lines s
  | .characterReceived link character framingError => Sys2Proof.Machine.execCharacterReceived link character framingError s
  | .lineConditionChange link space => Sys2Proof.Machine.execLineConditionChange link space s

end Sys2Proof.Machine
end

