-- ==== Sys2Proof/Machine/Ticking.lean ====
section
/-!
DEFINITION. One step of 1 ms of the Custody Clock (R205), and the timer expiries that fall due with it. The model
takes a step of the clock when no command waits (DESIGN CHOICE, log entry 15).
-/
namespace Sys2Proof.Machine

/-- The clock after a step of 1 ms (R205): the reading advances at every thousandth step. -/
def Clock.tick (c : Clock) : Clock :=
  if c.milli + 1 < 1000 then { c with milli := c.milli + 1, count := c.count + 1 }
  else if c.second + 1 < 86400 then { c with milli := 0, count := c.count + 1, second := c.second + 1 }
  else { c with milli := 0, count := c.count + 1, second := 0, day := (c.day + 1) % 65536 }

/-- A rack age after 1 ms (R151): held at its ceiling. -/
def growAge (age : Nat) : Nat := min ageCeilingMs (age + 1)

/-- Every entry of a table changed. -/
def mapTable {α β : Type} {n : Nat} (f : α → β) (t : Table α n) : Table β n :=
  ⟨t.items.map f, by rw [List.length_map]; exact t.size_eq⟩

/-- The rack ages after 1 ms (R151): they grow while the clock is set. -/
def State.grownAges (s : State) : Table Nat 8 := if s.clock.isSet then mapTable growAge s.sweep.ages else s.sweep.ages

/-- The battery-low condition after 1 ms (R208): only BATTERY LOW and a start set it. Off MAINS it may clear, at a moment
that no rule gives and no row of the table stands for (a free value, log entry 62); on MAINS, where the battery is not
sampled, it stays as it stands. That it clears leads to no other power state. -/
def State.batteryStillLow (s : State) : Bool :=
  s.power.batteryLow && (s.onMains || !Config.batteryRecovers s.now)

/-- The state after 1 ms, before any expiry is taken. -/
def State.pass (s : State) : State :=
  { s with
    clock := s.clock.tick
    power := { s.power with batteryLow := s.batteryStillLow }
    sweep := { s.sweep with ages := s.grownAges } }

/-- A command when it is due. -/
def whenDue (yes : Bool) (c : Instr) : List Instr := if yes then [c] else []

/-- The route of a lane has run out its 4 s (R66). -/
def State.routeOver (s : State) (l : LaneId) : Bool :=
  match (s.lane l).route with
  | some x => x.tipCount + routeMs ≤ s.now
  | none => false

/-- The expiries due at a lane. -/
def State.laneDue (s : State) (l : LaneId) : List Instr :=
  whenDue (s.phaseOver l .card) (.cardRefusalExpiry l) ++
  whenDue (s.keysOver l) (.keyTimerExpiry l) ++
  whenDue (s.boltLate l) (.lockConfirmTimeout l) ++
  whenDue (s.phaseOver l .load) (.loadTimeout l) ++
  whenDue (s.phaseOver l .weigh) (.weighTimeout l) ++
  whenDue (due (s.lane l).lock.pulseEnd s.now) (.pulseExpiry l .lock) ++
  whenDue (due (s.lane l).tip.pulseEnd s.now) (.pulseExpiry l .tip) ++
  whenDue (due (s.lane l).ret.pulseEnd s.now) (.pulseExpiry l .ret) ++
  whenDue (s.routeOver l) (.routeTimeout l) ++
  whenDue (s.phaseOver l .returnWait) (.returnWaitExpiry l)

/-- The expiries due at a bin's latch. -/
def State.binDue (s : State) (i : BinIdx) : List Instr :=
  whenDue (latchLate (s.bin i).op.releasingSince s.now) (.releaseTimeout i) ++
  whenDue (latchLate (s.bin i).op.engagingSince s.now) (.engageTimeout i)

/-- The expiries due at a link. -/
def State.linkDue (s : State) (l : Link) : List Instr :=
  whenDue (s.assembling l && s.gapPassed l) (.linkGapTimeout l) ++
  whenDue (s.linkRuns l && s.breakOver l) (.linkReset l)

/-- The clock has just passed into a new minute (R111). -/
def State.minutePassed (s : State) : Bool := s.clock.second % 60 == 0 && s.clock.milli == 0

/-- The delay end of a RAISING raise has been reached (R117). -/
def State.delayOver (s : State) : Bool :=
  match s.levels.raise with
  | some r => r.phase == .raising && r.delayEnd ≤ s.now
  | none => false

/-- The expiries due at a moment, in the model's order (log entry 15). -/
def State.dueCommands (s : State) : List Instr :=
  whenDue s.minutePassed .newMinute ++
  s.laneDue .a ++ s.laneDue .b ++
  (List.finRange 128).flatMap s.binDue ++
  whenDue s.holdOver .holdExpiry ++
  whenDue (due s.sweep.stepTimer s.now) .stepTimerExpiry ++
  (List.finRange 8).flatMap (fun r => whenDue (s.isOverdue r) (.rackOverdue r)) ++
  whenDue s.delayOver .raiseDelayExpiry ++
  whenDue s.confirmOver .confirmLapse ++
  whenDue s.listIdle .listIdleExpiry ++
  s.linkDue .branch ++ s.linkDue .security ++ s.linkDue .courier

/-- A step of the clock: 1 ms passes, and the expiries then due join the queue. -/
def State.tick (s : State) : State :=
  let t := s.pass
  { t with pending := s.pending ++ t.dueCommands }

end Sys2Proof.Machine
end

