-- ==== Sys2Proof/Safety.lean ====
section
/-!
DEFINITION. What a safe run keeps: the conditions that the manual states of the whole part, each over one state. A
statement says that every step keeps them.
-/
namespace Sys2Proof.Machine

/-! ### Levels (R104, R109, R112, R113) -/

/-- The effective level never exceeds the ceiling or the allowance, the target is the one the claims support, duress
holds the ceiling at SEALED, and a raise heads for the target, above the effective level. -/
abbrev LevelArbiter.sound (a : LevelArbiter) : Prop :=
  a.target = a.supported ∧ a.effective.rank ≤ a.ceiling.rank ∧ a.effective.rank ≤ a.allowance.rank ∧
    (a.duress = true → a.ceiling = .sealed) ∧
    (∀ r ∈ a.raise, r.target = a.target ∧ a.effective.rank < r.target.rank ∧
      (r.phase = .ready ↔ r.confirmEnd.isSome = true))

/-! ### Clock, windows and configuration (R205, R110, R203) -/

/-- The reading lies in its ranges (R205). -/
abbrev Clock.sound (c : Clock) : Prop := c.day < 65536 ∧ c.second < 86400 ∧ c.milli < 1000

/-- A window lies in the ranges of R110. -/
abbrev Window.sound (w : Window) : Prop :=
  w.days ≠ 0 ∧ w.days.toNat < 128 ∧ w.startMinute ≤ 1439 ∧ w.endMinute ≤ 1440 ∧ w.startMinute < w.endMinute

/-- Every slot that holds a window holds a sound one (R110). -/
abbrev State.windowsSound (s : State) : Prop := ∀ i, ∀ w ∈ s.windows.get i, w.sound

/-- Every field holds a supported value, and the pairs stand in order (R203, R204). -/
abbrev ConfigWord.sound (c : ConfigWord) : Prop :=
  (10 ≤ c.verificationInterval ∧ c.verificationInterval ≤ 120) ∧ (2 ≤ c.rackHoldMax ∧ c.rackHoldMax ≤ 30) ∧
    c.courierDelay ≤ 30 ∧ c.openingDelay ≤ 60 ∧ (1 ≤ c.confirmWindow ∧ c.confirmWindow ≤ 15) ∧
    (15 ≤ c.rateWindow ∧ c.rateWindow ≤ 240) ∧ c.countTolerance ≤ 10000 ∧ c.scaleTolerance ≤ 100 ∧
    c.margin ≤ 500 ∧ (c.tareMin ≤ c.tareMax ∧ c.tareMax ≤ 5000) ∧
    (1 ≤ c.silverLow ∧ c.silverLow ≤ c.silverHigh ∧ c.silverHigh ≤ 1000) ∧
    (1 ≤ c.bronzeLow ∧ c.bronzeLow ≤ c.bronzeHigh ∧ c.bronzeHigh ≤ 5000) ∧
    (20000 ≤ c.binMassLimit ∧ c.binMassLimit ≤ 200000) ∧ (c.inspectRacks = 1 ∨ c.inspectRacks = 2) ∧
    (c.burstLength = 1 ∨ c.burstLength = 4 ∨ c.burstLength = 8 ∨ c.burstLength = 16) ∧ c.weekOffset ≤ 6

/-! ### The strays list (R154) -/

/-- At most 16 entries, no tag serial twice, and INCOMPLETE clear when the list is empty. -/
abbrev Strays.sound (x : Strays) : Prop :=
  x.entries.length ≤ 16 ∧ (x.entries.map (fun e => e.tag)).Nodup ∧ (x.entries = [] → x.incomplete = false)

/-! ### The register and the cabinet (R1, R4, R29) -/

/-- The states in which a record's bin field is present (R4). -/
def RecState.hasBin : RecState → Bool
  | .reserved => true
  | .inFlight => true
  | .held => true
  | .missing => true
  | .listed => true
  | .astray => false
  | .taken => false
  | .counted => false
  | .released => false

/-- At most 512 live records, no tag serial twice, and a bin in exactly the states of R4. -/
abbrev Register.sound (x : Register) : Prop :=
  x.records.length ≤ 512 ∧ (x.records.map (fun r => r.tag)).Nodup ∧
    (∀ r ∈ x.records, r.bin.isSome = r.state.hasBin)

/-- The fields of the records by their states (R2 to R4, R10): a receipt number from 1 to 999,999 and a drop time from
the tip on, a reservation part in RESERVED and IN_FLIGHT, a seen-at bin in neither of them, a last seen in neither of
them nor in ASTRAY, a result in COUNTED and perhaps in RELEASED; and no receipt number twice. -/
abbrev Register.fieldsSound (x : Register) : Prop :=
  (1 ≤ x.nextReceipt ∧ x.nextReceipt ≤ 999999) ∧
    (∀ r ∈ x.records, r.receipt.isSome = (r.state != .reserved) ∧ r.dropTime.isSome = (r.state != .reserved) ∧
      r.reservation.isSome = (r.state == .reserved || r.state == .inFlight) ∧
      (∀ n ∈ r.receipt, 1 ≤ n ∧ n ≤ 999999) ∧ (r.state = .counted → r.result.isSome = true) ∧
      (r.result.isSome = true → r.state = .counted ∨ r.state = .released) ∧
      (r.seenAt.isSome = true → r.state ≠ .reserved ∧ r.state ≠ .inFlight) ∧
      (r.lastSeen.isSome = true → r.state ≠ .reserved ∧ r.state ≠ .inFlight ∧ r.state ≠ .astray)) ∧
    (x.records.filterMap (fun r => r.receipt)).Nodup

/-- The sum of the masses of the live records whose bin is `i` (R29). -/
def State.massIn (s : State) (i : BinIdx) : Nat :=
  ((s.register.records.filter (fun r => r.bin == some i)).map (fun r => r.mass)).sum

/-- A bin's contents name, each once and at most four, exactly the live records whose bin it is, and its mass sum is
the sum of their masses (R29). -/
abbrev State.binSound (s : State) (i : BinIdx) : Prop :=
  (s.bin i).contents.length ≤ 4 ∧ (s.bin i).contents.Nodup ∧
    (∀ t ∈ (s.bin i).contents, (s.findTag t).any (fun r => r.bin == some i) = true) ∧
    (∀ r ∈ s.register.records, r.bin = some i → r.tag ∈ (s.bin i).contents) ∧
    (s.bin i).massSum = s.massIn i

/-- The register and the cabinet agree (R1, R4, R29). -/
abbrev State.cabinetSound (s : State) : Prop := s.register.sound ∧ ∀ i, s.binSound i

/-! ### Latches and doors (R125, R132, R133) -/

/-- A bin's latch, operation and door are in a combination in which the door events marked 'not possible' cannot
arise (R125): LATCHED at rest and ENGAGING with the door CLOSED, WAITING FOR DOOR only UNLATCHED with the door OPEN. -/
abbrev Bin.doorSound (b : Bin) : Prop :=
  (b.latch = .latched → b.op = .idle → b.door = .closed) ∧
    (b.op.isEngaging = true → b.door = .closed ∧ b.latch ≠ .latched) ∧
    (∀ n, b.op = .waitingForDoor n → b.door = .opened ∧ b.latch = .unlatched) ∧
    (b.op.releasingSince.isSome = true → b.latch = .latched)

/-- Every bin is door-sound. -/
abbrev State.doorsSound (s : State) : Prop := ∀ i, (s.bin i).doorSound

/-- A bin stands unlatched only where its opening is allowed (R120, R114, R134): at rest, in the rack of an ACTIVE
selection to whose owner the level permits it; waiting for its door, in the selected rack. In RETENTION no bin is
UNLATCHED and no latch operation is in progress (R143). -/
abbrev State.accessSound (s : State) : Prop :=
  (∀ i, (s.bin i).latch = .unlatched → (s.bin i).op = .idle →
    ∃ x ∈ s.selection, x.rack = rackOf i ∧ x.phase = .active ∧ s.permits x.owner (s.bin i) = true) ∧
  (∀ i n, (s.bin i).op = .waitingForDoor n → s.selectedRack = some (rackOf i)) ∧
  (s.inRetention = true → s.selection = none ∧ ∀ i, (s.bin i).latch ≠ .unlatched ∧ (s.bin i).op = .idle)

/-! ### Depositors (R89, R99, R101) -/

/-- An entry's fields lie in the ranges of R89. -/
abbrev Depositor.sound (d : Depositor) : Prop :=
  d.trust ≤ 3 ∧ d.liveCount ≤ 24 ∧ d.windowCount ≤ d.dropLimit ∧ (1 ≤ d.dropLimit ∧ d.dropLimit ≤ 15) ∧
    (100 ≤ d.perBag ∧ d.perBag ≤ 3050000) ∧
    (d.levels.sealed = true ∨ d.levels.courier = true ∨ d.levels.inspect = true)

/-- Every entry is sound. -/
abbrev State.depositorsSound (s : State) : Prop := ∀ i, ∀ d ∈ s.dep i, d.sound

/-- No two entries hold the same card number (R89). -/
abbrev State.cardsUnique (s : State) : Prop :=
  ∀ i j, ∀ d ∈ s.dep i, ∀ e ∈ s.dep j, d.card = e.card → i = j

/-- Every entry's live count is the number of live records that name it (R100). -/
abbrev State.liveCountsSound (s : State) : Prop :=
  ∀ i, ((s.dep i).map (fun d => d.liveCount)).getD 0 =
    (s.register.records.filter (fun r => r.depositor == i)).length

/-! ### The manifest (R174) -/

/-- At most 64 entries, none twice; each names a LISTED record and each LISTED record is named; none in EMPTY and
CLOSED (R174). -/
abbrev State.manifestSound (s : State) : Prop :=
  s.manifest.entries.length ≤ 64 ∧ s.manifest.entries.Nodup ∧
    (∀ n ∈ s.manifest.entries, (s.findReceipt n).any (fun r => r.state == .listed) = true) ∧
    (∀ r ∈ s.register.records, r.state = .listed → ∃ n ∈ r.receipt, n ∈ s.manifest.entries) ∧
    (s.manifest.state = .empty ∨ s.manifest.state = .closed → s.manifest.entries = [])

/-! ### Lanes (R50) -/

/-- A lane's state agrees with its close-reason set (R50): IDLE only with the set empty, SERVICE only with SERVICE in
it, JAMMED only with JAMMED and without SERVICE, CLOSED only without either. -/
abbrev Lane.sound (x : Lane) : Prop :=
  (x.state = .idle → x.reasons = noReasons) ∧ (x.state = .service → x.reasons.service = true) ∧
    (x.state = .jammed → x.reasons.jammed = true ∧ x.reasons.service = false) ∧
    (x.state = .closed → x.reasons.jammed = false ∧ x.reasons.service = false)

end Sys2Proof.Machine
end

