-- ==== Sys2Proof/Certificates/Slice0/Obligations.lean ====
section
/-!
DEFINITION. The statements for the provers, chapter by chapter. A statement about a request is made for the links that
carry it and for a state in which its link takes one; `RequestsTurnedAway` says what happens otherwise.
-/
namespace Sys2Proof.Machine

/-- The outcome of the characters received in order on a link, none with a framing error. -/
def receiveAll (l : Link) : List Byte → State → Out
  | [], s => .next s
  | b :: rest, s =>
    match exec (.characterReceived l b false) s with
    | .next t => receiveAll l rest t
    | .fault f => .fault f
    | .refused r => .refused r

/-- The outcome of a request that is taken: OK with a result, sent back in the state it leaves. -/
def State.answers (t : State) (l : Link) (code : Nat) (r : Result) : Out := .next (t.reply l code (.ok r))

/-- The outcome of a request that is refused: the status alone, with nothing changed but the exchange. -/
def State.turnsAway (s : State) (l : Link) (code : Nat) (why : Status) : Out := .next (s.reply l code (.refuse why))

/-- The allowance at a moment (R111): SEALED while the clock is not set, else the greatest level of the windows that
contain the moment, SEALED where none does. -/
def allowanceOf (s : State) (a : Level) : Prop :=
  if s.clock.isSet = false then a = .sealed
  else
    (∀ i, ∀ w ∈ s.windows.get i,
      w.days.getLsbD ((s.clock.day + s.config.weekOffset) % 7) = true → w.startMinute ≤ s.clock.second / 60 →
        s.clock.second / 60 < w.endMinute → w.level.rank ≤ a.rank) ∧
    (a = .sealed ∨ ∃ i, ∃ w ∈ s.windows.get i,
      w.days.getLsbD ((s.clock.day + s.config.weekOffset) % 7) = true ∧ w.startMinute ≤ s.clock.second / 60 ∧
        s.clock.second / 60 < w.endMinute ∧ w.level = a)

/-- The level conditions of R120 permit a bin to a party: to the branch at OPEN, and at INSPECT a bin of class INSPECT;
to the courier at COURIER or above with the crew logged in. -/
def levelPermits (s : State) (p : Party) (i : BinIdx) : Prop :=
  if p = .branch then s.levels.effective = .opened ∨ (s.levels.effective = .inspect ∧ (s.bin i).cls = .inspect)
  else 1 ≤ s.levels.effective.rank ∧ s.manifest.state = .active

/-- What the end of a selection leaves of the rack bus (R126a, R134, R147, R150, R210): a RACK INVENTORY read under it is
abandoned, and unless a read that is not under a selection is in progress the bus is free. An INVENTORY pass that waits
begins the read of its rack; where none waits a WAITING step begins its read; and where neither waits nothing else
changes. That no SELECT RACK comes between is the model's choice (log entry 63). -/
def busPasses (s t : State) : Prop :=
  ((∃ r, s.sweep.read = some r ∧ r.asker ≠ .branch) → t.sweep = s.sweep ∧ t.power = s.power) ∧
  ((∀ r, s.sweep.read = some r → r.asker = .branch) →
    (∀ rack, s.power.state = .mains (.inventory rack false) →
      t.power = { s.power with state := .mains (.inventory rack true) } ∧
      t.sweep = { s.sweep with
        read := some { rack := rack, asker := .inventory, start := s.reading, startCount := s.now } }) ∧
    ((∀ rack, s.power.state ≠ .mains (.inventory rack false)) →
      t.power = s.power ∧
      t.sweep = if s.sweep.step = .waiting then
          { s.sweep with
            step := .reading
            read := some { rack := s.sweep.pointer, asker := .step, start := s.reading, startCount := s.now } }
        else { s.sweep with read := none }))

/-- A RELEASING selection ends in the event that leaves no bin of its rack UNLATCHED and no latch operation of its rack
RELEASING or ENGAGING (R134); any other selection stays as it is, and with it the sweep and the power state. -/
def selectionEndsWhenQuiet (s t : State) : Prop :=
  ∃ ended : Prop,
    (ended ↔ ∃ x, s.selection = some x ∧ x.phase = .releasing ∧ ∀ j, rackOf j = x.rack →
      (t.bin j).latch ≠ .unlatched ∧ (t.bin j).op.releasingSince = none ∧ (t.bin j).op.engagingSince = none) ∧
    (ended → t.selection = none) ∧
    (¬ ended → t.selection = s.selection ∧ t.sweep = s.sweep ∧ t.power = s.power)

/-- What the release of an ACTIVE selection leaves (R134, R135): in its rack every bin that stands UNLATCHED, with no
engage under way, begins to relatch where its door is CLOSED and is UNSECURED where it is OPEN, and no other bin's latch
changes; BIN UNSECURED is raised on the security link where a bin is made UNSECURED and not otherwise; the selection
ends at once when nothing of the rack is left to relatch, the freed bus then going to a read that waits for it, and is
RELEASING until then. -/
def letsRackGo (s t : State) (x : Selection) : Prop :=
  (∀ i, rackOf i = x.rack → (s.bin i).standsOpen = true → (s.bin i).door = .closed →
    t.bin i = { s.bin i with op := .engaging s.now false }) ∧
  (∀ i, rackOf i = x.rack → (s.bin i).standsOpen = true → (s.bin i).door = .opened →
    t.bin i = { s.bin i with latch := .unsecured, op := .idle }) ∧
  (∀ i, rackOf i ≠ x.rack ∨ (s.bin i).standsOpen = false → t.bin i = s.bin i) ∧
  t.selection = (if t.rackQuiet x.rack then none
    else some { owner := x.owner, rack := x.rack, phase := .releasing, holdEnd := none }) ∧
  (t.selection = none → busPasses s t) ∧ (t.selection ≠ none → t.sweep = s.sweep ∧ t.power = s.power) ∧
  (∀ i, rackOf i = x.rack → (s.bin i).standsOpen = true → (s.bin i).door = .opened →
    t.security.notices &&& 0x02 ≠ 0) ∧
  ((∀ i, rackOf i = x.rack → (s.bin i).standsOpen = true → (s.bin i).door = .closed) →
    t.security.notices &&& 0x02 = s.security.notices &&& 0x02) ∧
  t.register = s.register ∧ t.levels = s.levels ∧ t.laneA = s.laneA ∧ t.laneB = s.laneB ∧ t.manifest = s.manifest

/-- What a bin check of bin `i` with the set of tags `seen` leaves, from `s` to `t` (R15, R16, R36, R138 to R141, R154,
R180). Relocations take the places free in the bin in order, MISSING and ASTRAY records before those of other bins, each
group in ascending order of tag; the records that find no place are seen there. A LISTED record made MISSING leaves the
manifest's entries and the withdrawn count goes up by one for each, held at 65,535; a SEALED manifest so left empty is
BUILDING again. A seen tag of no live record is a stray: one on the strays list gets its latest sighting, the others are
appended in ascending order as long as the list holds fewer than 16, and one that finds no place sets INCOMPLETE. -/
def binChecked (s t : State) (i : BinIdx) (seen : List Tag) : Prop :=
  (∀ r ∈ s.register.records, r.bin = some i → r.state = .held ∨ r.state = .missing ∨ r.state = .listed →
    (r.tag ∈ seen → t.findTag r.tag = some { r with
      lastSeen := some { pass := s.sweep.pass, time := s.reading }, seenAt := none,
      state := if r.state = .missing then .held else r.state }) ∧
    (r.tag ∉ seen → t.findTag r.tag = some { r with state := .missing })) ∧
  (∀ r ∈ s.register.records, r.bin ≠ some i → r.tag ∈ seen →
    r.state = .held ∨ r.state = .missing ∨ r.state = .listed ∨ r.state = .astray →
    t.findTag r.tag = some { r with
      bin := some i, lastSeen := some { pass := s.sweep.pass, time := s.reading }, seenAt := none,
      flags := { r.flags with misrouteSuspect := true },
      state := if r.state = .listed then .listed else .held } ∨
    (t.findTag r.tag = some { r with seenAt := some i, flags := { r.flags with misrouteSuspect := true } } ∧
      (t.bin i).contents.length = 4)) ∧
  (∀ r ∈ s.register.records, r.tag ∈ seen → r.state = .taken ∨ r.state = .counted ∨ r.state = .released →
    t.findTag r.tag = some { r with seenAt := some i }) ∧
  (∀ r ∈ s.register.records, r.state = .reserved ∨ r.state = .inFlight ∨ (r.bin ≠ some i ∧ r.tag ∉ seen) →
    t.findTag r.tag = some r) ∧
  t.register.records.map (fun r => r.tag) = s.register.records.map (fun r => r.tag) ∧
  (∃ missing strays : Nat,
    missing = (t.register.records.filter (fun r => r.bin == some i && r.state == .missing)).length ∧
    strays = min 255 (seen.dedup.filter (fun x => (s.findTag x).isNone)).length ∧
    (t.bin i).lastCheck = some
      { outcome := if missing = 0 ∧ strays = 0 then .clean else .found missing strays
        pass := s.sweep.pass, time := s.reading } ∧
    t.security = { s.security with notices :=
      if missing = 0 ∧ strays = 0 then s.security.notices else s.security.notices ||| 0x10 } ∧
    t.branch = { s.branch with notices :=
      if (missing = 0 ∧ strays = 0) ∨ s.inRetention = true then s.branch.notices else s.branch.notices ||| 0x04 }) ∧
  (∃ (news : List Tag) (sight : StraySighting), sight = { bin := i, pass := s.sweep.pass, time := s.reading } ∧
    news.Pairwise (fun a b => a < b) ∧
    (∀ x, x ∈ news ↔ x ∈ seen ∧ s.findTag x = none ∧ ∀ e ∈ s.strays.entries, e.tag ≠ x) ∧
    t.strays.entries =
      s.strays.entries.map (fun e => if e.tag ∈ seen ∧ s.findTag e.tag = none then { e with latest := sight } else e) ++
        (news.take (16 - s.strays.entries.length)).map (fun x => { tag := x, first := sight, latest := sight }) ∧
    t.strays.incomplete = (s.strays.incomplete || decide (16 - s.strays.entries.length < news.length))) ∧
  (∃ found other : List Tag, found.Pairwise (fun a b => a < b) ∧ other.Pairwise (fun a b => a < b) ∧
    (∀ x, x ∈ found ↔ x ∈ seen ∧ ∃ r, s.findTag x = some r ∧ r.bin ≠ some i ∧
      (r.state = .missing ∨ r.state = .astray)) ∧
    (∀ x, x ∈ other ↔ x ∈ seen ∧ ∃ r, s.findTag x = some r ∧ r.bin ≠ some i ∧
      (r.state = .held ∨ r.state = .listed)) ∧
    (t.bin i).contents = (s.bin i).contents ++ (found ++ other).take (4 - (s.bin i).contents.length) ∧
    (∀ j, j ≠ i → (t.bin j).contents = (s.bin j).contents.filter (fun x =>
      !((found ++ other).take (4 - (s.bin i).contents.length)).contains x))) ∧
  (∃ gone : List Nat,
    gone = (s.register.records.filter (fun r =>
      r.bin == some i && r.state == .listed && !seen.contains r.tag)).filterMap (fun r => r.receipt) ∧
    t.manifest = { s.manifest with
      entries := t.manifest.entries
      withdrawn := if gone = [] then s.manifest.withdrawn else min 65535 (s.manifest.withdrawn + gone.length)
      state := if s.manifest.state = .sealed ∧ gone ≠ [] ∧ t.manifest.entries = [] then .building
        else s.manifest.state } ∧
    (s.manifest.entries.Nodup → t.manifest.entries = s.manifest.entries.filter (fun n => !gone.contains n))) ∧
  (∀ j, (t.bin j).latch = (s.bin j).latch ∧ (t.bin j).op = (s.bin j).op ∧ (t.bin j).cls = (s.bin j).cls ∧
    (j ≠ i → (t.bin j).lastCheck = (s.bin j).lastCheck)) ∧
  t.levels = s.levels ∧ t.laneA = s.laneA ∧ t.laneB = s.laneB ∧ t.selection = s.selection ∧
    t.depositors = s.depositors ∧ t.alloc = s.alloc ∧ t.sweep = s.sweep

/-- What a burst carries (R169 to R172, R198): for a cursor with filter `f`, the matching live records with a receipt
number, from the next receipt number on, each once, in ascending order or, in WRAP order, round the circle from the
start; at most the burst length, and never more than the eight of one reply; MORE and the next start when some are left,
and then a fresh idle expiry; otherwise the cursor becomes CLOSED. -/
def burstOf (s : State) (c : Cursor) (outcome : Out) (code : Nat) : Prop :=
  ∃ (entries all : List ListEntry) (more : Bool) (next : Option Nat) (place : Nat → Nat) (left : Option Cursor),
    place = (fun n => if c.order = .wrap ∧ n < c.start then n + 999999 else n) ∧
    left = (if more then some { c with next := next.getD c.next, idleEnd := s.now + 30000 } else none) ∧
    outcome = State.answers { s with branch := { s.branch with cursor := left } } .branch code
      (.burst entries more next s.register.records.length) ∧
    (∀ e, e ∈ all ↔ ∃ r ∈ s.register.records, filterAccepts c.filter r = true ∧ r.receipt = some e.receipt ∧
      place c.next ≤ place e.receipt ∧
      e = { receipt := e.receipt, state := r.state, bin := r.bin, mass := r.mass, lo := r.lo, hi := r.hi,
            decision := r.decision, holdClass := r.holdClass, flags := r.flags }) ∧
    all.Pairwise (fun a b => place a.receipt < place b.receipt) ∧
    entries = all.take (min c.burst 8) ∧ (more = true ↔ min c.burst 8 < all.length) ∧
    (more = false → next = none) ∧
    (more = true → ∀ e, entries.getLast? = some e →
      next = some (if c.order = .wrap ∧ e.receipt = 999999 then 1 else e.receipt + 1))

/-- The lane reaches IDLE (R51): IDLE where its set is empty, and otherwise closed in the state the set gives; its
session is over, its phase timer stopped, and nothing else but its drawer's lock is moved. -/
def reachesIdle (s t : State) (x : LaneId) : Prop :=
  t = { s with laneA := t.laneA, laneB := t.laneB } ∧ t.lane x.other = s.lane x.other ∧
  (t.lane x).state = (if (s.lane x).reasons = noReasons then .idle else closedState (s.lane x).reasons) ∧
  (t.lane x).session = none ∧ (t.lane x).phaseTimer = none ∧ (t.lane x).reasons = (s.lane x).reasons ∧
  (t.lane x).route = (s.lane x).route ∧ (t.lane x).inputs = (s.lane x).inputs ∧
  (t.lane x).tip = (s.lane x).tip ∧ (t.lane x).ret = (s.lane x).ret

/-- The lane jams (R57, R61, R66, R67): JAMMED is added, the session ends, the lane is closed and LANE JAMMED is raised
on the branch link. -/
def jams (s t : State) (x : LaneId) : Prop :=
  t = { s with laneA := t.laneA, laneB := t.laneB, branch := t.branch } ∧ t.lane x.other = s.lane x.other ∧
  (t.lane x).reasons = { (s.lane x).reasons with jammed := true } ∧
  (t.lane x).state = (if (s.lane x).reasons.service then .service else .jammed) ∧ (t.lane x).session = none ∧
  t.branch = { s.branch with notices :=
    if s.inRetention then s.branch.notices else s.branch.notices ||| 0x01 }

/-- The lane gives the bag back (R67): RETURN with its reason on the display, the bolt released first when it is locked
and the return motor run otherwise. -/
def returnsBag (s t : State) (x : LaneId) (why : ReturnReason) : Prop :=
  t = { s with laneA := t.laneA, laneB := t.laneB } ∧ t.lane x.other = s.lane x.other ∧
  (t.lane x).state = .ret ∧ (t.lane x).returnReason = some why ∧ (t.lane x).display = .returning why ∧
  (t.lane x).phaseTimer = none ∧ (t.lane x).reasons = (s.lane x).reasons ∧
  (if (s.lane x).inputs.drawerLocked then
    (t.lane x).lockGoal = some { wantLocked := false, confirmBy := none } ∧
      (t.lane x).lock = { on := true, high := s.config.active.level x .lock, pulseEnd := some (s.now + 200) }
   else (t.lane x).lockGoal = none ∧
      (t.lane x).ret = { on := true, high := s.config.active.level x .ret, pulseEnd := some (s.now + 1500) })

/-- The diverter's grant goes to a lane (R65, R71): the lane is the holder and the last served, its request waits no
longer, and it is in TIP with 0.8 s for the positioning; the other lane's request stays as it was. -/
def takesDiverter (s t : State) (x : LaneId) : Prop :=
  t.diverter.holder = some x ∧ t.diverter.lastServed = x ∧ t.diverter.waiting x = false ∧
  t.diverter.waiting x.other = s.diverter.waiting x.other ∧ (t.lane x).state = .tip ∧
  (t.lane x).phaseTimer = some (s.now + 800)

/-- The diverter stands commanded to the bin of the lane's RESERVED record (R65). -/
def diverterAtRecord (s t : State) (x : LaneId) : Prop :=
  ∀ r, s.reservedOf x = some r → t.diverter.target = r.bin

/-- A lane asks for the diverter on entry into TIP_WAIT (R65, R71): with no holder the grant is the lane's at once, and
the diverter is commanded to its record's bin; otherwise its request waits and nothing else of the arbiter changes. -/
def asksDiverter (s t : State) (x : LaneId) : Prop :=
  (s.diverter.holder = none → takesDiverter s t x ∧ diverterAtRecord s t x) ∧
  (s.diverter.holder ≠ none → (t.lane x).state = .tipWait ∧ (t.lane x).phaseTimer = none ∧
    t.diverter.waiting x = true ∧ t.diverter.waiting x.other = s.diverter.waiting x.other ∧
    t.diverter.holder = s.diverter.holder ∧ t.diverter.lastServed = s.diverter.lastServed ∧
    t.diverter.target = s.diverter.target)

/-- The grant that a lane gives up goes to the other lane where that one's request waits (R71, R72): the other lane goes
from TIP_WAIT to TIP, the diverter commanded to its record's bin, and nothing else of it changes. Where it does not wait
the holder is NONE and nothing else of the arbiter or of the other lane changes. -/
def grantPasses (s t : State) (x : LaneId) : Prop :=
  s.diverter.waiting x = false →
    (s.diverter.waiting x.other = true → takesDiverter s t x.other ∧
      t.lane x.other = { s.lane x.other with state := .tip, phaseTimer := some (s.now + 800) } ∧
      (s.register.sound → diverterAtRecord s t x.other)) ∧
    (s.diverter.waiting x.other = false →
      t.diverter = { s.diverter with holder := none } ∧ t.lane x.other = s.lane x.other)

/-- What the scan of a class's range finds for a bag of mass `m` (R40, R41): no bin where none of the range is eligible,
and otherwise the first eligible bin going up from the cursor and on from the range's lowest bin. -/
def scanFinds (s : State) (c : BagClass) (m : Nat) (found : Option BinIdx) : Prop :=
  ∃ (fits : BinIdx → Prop) (place : BinIdx → Nat),
    (∀ i, fits i ↔ (c = .normal ↔ i.val < if s.config.inspectRacks = 2 then 96 else 112) ∧
      (s.bin i).cls = binClassOf c ∧ (s.bin i).latch = .latched ∧ s.selectedRack ≠ some (rackOf i) ∧
      (s.bin i).contents.length < 4 ∧ (s.bin i).massSum + m ≤ s.config.binMassLimit) ∧
    (∀ i, place i = if (s.alloc.cursor c).val ≤ i.val then i.val else i.val + 128) ∧
    (found = none ↔ ∀ i, ¬ fits i) ∧ (∀ i, found = some i → fits i ∧ ∀ j, fits j → place i ≤ place j)

/-- What the reservation of a drop in bin `i` by an allocation in class `c` leaves (R6, R7, R39, R41, R42, R155): the
record RESERVED with its reservation part, the class's cursor at the bin and its serial counter advanced, the record at
the end of the bin's contents with its mass added, the depositor's live count one higher, its tag off the strays list,
and SAFE FULL when the register is now full. -/
def reservedIn (s t : State) (f : DropFacts) (c : BagClass) (i : BinIdx) : Prop :=
  t.register = { s.register with records := s.register.records ++ [
    { state := .reserved, receipt := none, lane := f.lane, depositor := f.depositor, tag := f.tag, decl := f.decl,
      mass := f.mass, lo := f.lo, hi := f.hi, decision := f.decision, holdClass := f.holdClass, bin := some i,
      seenAt := none, dropTime := none, lastSeen := none,
      reservation := some { cls := c, serial := s.alloc.serial c, saved := s.alloc.cursor c }, result := none,
      flags := { misrouteSuspect := false, outOfManifestScan := false, restarted := false } }] } ∧
  t.alloc = (if c = .normal then
      { s.alloc with normalCursor := i, normalSerial := s.alloc.normalSerial + 1 }
    else { s.alloc with inspectCursor := i, inspectSerial := s.alloc.inspectSerial + 1 }) ∧
  (∀ j, t.bin j = if j = i then
      { s.bin i with contents := (s.bin i).contents ++ [f.tag], massSum := (s.bin i).massSum + f.mass }
    else s.bin j) ∧
  (∀ d, t.dep d = if d = f.depositor then (s.dep d).map (fun e => { e with liveCount := e.liveCount + 1 })
    else s.dep d) ∧
  (∀ e, e ∈ t.strays.entries ↔ e ∈ s.strays.entries ∧ e.tag ≠ f.tag) ∧
  t.branch = { s.branch with notices :=
    if s.register.records.length = 511 ∧ s.inRetention = false then s.branch.notices ||| 0x08 else s.branch.notices } ∧
  t = { s with register := t.register, alloc := t.alloc, bins := t.bins, depositors := t.depositors,
               strays := t.strays, branch := t.branch }

/-- What the rollback of a RESERVED record leaves of the register, the bins, the cursors and the Depositor Table (R13,
R43, R100): the record gone from the register and from its bin, and the cursor of its allocation class back at the saved
cursor exactly when it names the record's bin, no other record of the class with a higher serial is RESERVED or
IN_FLIGHT, and the saved cursor lies in the class's range; the other cursor and both serial counters stay. -/
def rolledBack (s t : State) (r : BagRecord) : Prop :=
  t.register = { s.register with records := s.register.records.filter (fun x => x.tag != r.tag) } ∧
  (∀ i, t.bin i = if r.bin = some i then
      { s.bin i with contents := (s.bin i).contents.erase r.tag, massSum := (s.bin i).massSum - r.mass }
    else s.bin i) ∧
  (∀ d, t.dep d = if d = r.depositor then (s.dep d).map (fun e => { e with liveCount := e.liveCount - 1 })
    else s.dep d) ∧
  (∀ q, r.reservation = some q → ∃ restored : Prop,
    (restored ↔ r.bin = some (s.alloc.cursor q.cls) ∧
      (∀ x ∈ s.register.records, x.tag ≠ r.tag → x.state = .reserved ∨ x.state = .inFlight →
        ∀ p, x.reservation = some p → p.cls = q.cls → p.serial = q.serial ∨ 32768 ≤ (p.serial - q.serial).toNat) ∧
      (q.cls = .normal ↔ q.saved.val < if s.config.inspectRacks = 2 then 96 else 112)) ∧
    (restored → t.alloc = if q.cls = .normal then { s.alloc with normalCursor := q.saved }
      else { s.alloc with inspectCursor := q.saved }) ∧
    (¬ restored → t.alloc = s.alloc))

/-- What a fall of the effective level leaves of the cabinet, the lanes and the notices (R113, R114, R105). In the
selected rack a bin that stands UNLATCHED and is still permitted to the selection's owner keeps its state; one that is
no longer permitted is relatched where its door is CLOSED and UNSECURED, with BIN UNSECURED, where it is OPEN. No other
bin's latch, operation, class or door changes; at a fall from below OPEN the lanes stay as they are, and the bins'
contents and mass sums and the register stay so at any fall that finds no RESERVED record for an opening check to roll
back. LEVEL CHANGED is raised on both links, and a fall from OPEN takes LEVEL from both lanes' sets. -/
def lowersLevel (s t : State) : Prop :=
  (∀ i x, s.selection = some x → x.rack = rackOf i → (s.bin i).standsOpen = true →
    ∃ permitted : Prop,
      (permitted ↔ if x.owner = .branch then
          t.levels.effective = .opened ∨ (t.levels.effective = .inspect ∧ (s.bin i).cls = .inspect)
        else 1 ≤ t.levels.effective.rank ∧ s.loggedIn = true) ∧
      (permitted → (t.bin i).latch = (s.bin i).latch ∧ (t.bin i).op = (s.bin i).op) ∧
      (¬ permitted → (s.bin i).door = .closed → (t.bin i).latch = .unlatched ∧ (t.bin i).op = .engaging s.now false) ∧
      (¬ permitted → (s.bin i).door = .opened → (t.bin i).latch = .unsecured ∧ (t.bin i).op = .idle ∧
        t.security.notices &&& 0x02 ≠ 0)) ∧
  (∀ i, s.selectedRack ≠ some (rackOf i) ∨ (s.bin i).standsOpen = false →
    (t.bin i).latch = (s.bin i).latch ∧ (t.bin i).op = (s.bin i).op) ∧
  (∀ i, (t.bin i).cls = (s.bin i).cls ∧ (t.bin i).door = (s.bin i).door ∧
    (t.bin i).lastCheck = (s.bin i).lastCheck) ∧
  (s.levels.effective ≠ .opened → t.laneA = s.laneA ∧ t.laneB = s.laneB) ∧
  (s.levels.effective ≠ .opened ∨ (∀ x, s.reservedOf x = none) → t.register = s.register ∧ t.alloc = s.alloc ∧
    ∀ i, (t.bin i).contents = (s.bin i).contents ∧ (t.bin i).massSum = (s.bin i).massSum) ∧
  (∀ x, (t.lane x).reasons =
    if s.levels.effective = .opened then { (s.lane x).reasons with level := false } else (s.lane x).reasons) ∧
  t.levels.raise = none ∧ t.security.notices &&& 0x80 ≠ 0 ∧
  (s.inRetention = false → t.courier.notices &&& 0x02 ≠ 0) ∧ t.manifest = s.manifest

/-- The command is the expiry of a timer that has run out in a state (log entry 15), or the passing of a minute. -/
def expiryDue (t : State) (c : Instr) : Prop :=
  (c = .newMinute ∧ t.clock.second % 60 = 0 ∧ t.clock.milli = 0) ∨
  (∃ l n, (t.lane l).phaseTimer = some n ∧ n ≤ t.now ∧
    (((t.lane l).state = .card ∧ c = .cardRefusalExpiry l) ∨ ((t.lane l).state = .load ∧ c = .loadTimeout l) ∨
      ((t.lane l).state = .weigh ∧ c = .weighTimeout l) ∨
      ((t.lane l).state = .returnWait ∧ c = .returnWaitExpiry l))) ∨
  (∃ l x n, c = .keyTimerExpiry l ∧ t.inRetention = false ∧ (t.lane l).state = .declare ∧
    (t.lane l).session = some x ∧ x.keyTimer = some n ∧ n ≤ t.now) ∨
  (∃ l g n, c = .lockConfirmTimeout l ∧ (t.lane l).lockGoal = some g ∧ g.confirmBy = some n ∧ n ≤ t.now) ∨
  (∃ l o n, c = .pulseExpiry l o ∧ ((t.lane l).output o).pulseEnd = some n ∧ n ≤ t.now) ∨
  (∃ l x, c = .routeTimeout l ∧ (t.lane l).route = some x ∧ x.tipCount + 4000 ≤ t.now) ∨
  (∃ i n, c = .releaseTimeout i ∧ (t.bin i).op = .releasing n ∧ n + 1000 ≤ t.now) ∨
  (∃ i n byRelatch, c = .engageTimeout i ∧ (t.bin i).op = .engaging n byRelatch ∧ n + 1000 ≤ t.now) ∨
  (∃ x n, c = .holdExpiry ∧ t.selection = some x ∧ x.phase = .active ∧ x.holdEnd = some n ∧ n ≤ t.now) ∨
  (∃ n, c = .stepTimerExpiry ∧ t.sweep.stepTimer = some n ∧ n ≤ t.now) ∨
  (∃ k, c = .rackOverdue k ∧ t.inRetention = false ∧ t.sweep.overdue.get k = false ∧
    t.config.verificationInterval * (if t.onMains then 60000 else 240000) < t.sweep.ages.get k) ∨
  (∃ r, c = .raiseDelayExpiry ∧ t.levels.raise = some r ∧ r.phase = .raising ∧ r.delayEnd ≤ t.now) ∨
  (∃ r n, c = .confirmLapse ∧ t.levels.raise = some r ∧ r.phase = .ready ∧ r.confirmEnd = some n ∧ n ≤ t.now) ∨
  (∃ x, c = .listIdleExpiry ∧ t.branch.cursor = some x ∧ x.idleEnd ≤ t.now) ∨
  (∃ l, c = .linkGapTimeout l ∧ t.linkRuns l = true ∧ (t.link l).assembly.phase ≠ .hunt ∧
    (t.link l).assembly.lastEnd + 50 < t.now) ∨
  (∃ l n, c = .linkReset l ∧ t.linkRuns l = true ∧ (t.link l).line = .space n false ∧ n + 100 ≤ t.now)

/-- What a SET CONFIG field leaves in the Configuration Word, by its number in the table of R203, and whether it was
written with its default (R203, R204): the value carried where it is supported, a pair where both lie in range and in
order, the active levels where each is one; and otherwise the default. -/
def fieldTaken (w : ConfigWrite) (c : ConfigWord) (number : Nat) (defaulted : Bool) : Prop :=
  match w with
  | .verificationInterval v => number = 1 ∧ defaulted = !decide (10 ≤ v.toNat ∧ v.toNat ≤ 120) ∧
    c.verificationInterval = if defaulted then 30 else v.toNat
  | .rackHoldMax v => number = 2 ∧ defaulted = !decide (2 ≤ v.toNat ∧ v.toNat ≤ 30) ∧
    c.rackHoldMax = if defaulted then 10 else v.toNat
  | .courierDelay v => number = 3 ∧ defaulted = !decide (v.toNat ≤ 30) ∧
    c.courierDelay = if defaulted then 0 else v.toNat
  | .openingDelay v => number = 4 ∧ defaulted = !decide (v.toNat ≤ 60) ∧
    c.openingDelay = if defaulted then 15 else v.toNat
  | .confirmWindow v => number = 5 ∧ defaulted = !decide (1 ≤ v.toNat ∧ v.toNat ≤ 15) ∧
    c.confirmWindow = if defaulted then 5 else v.toNat
  | .rateWindow v => number = 6 ∧ defaulted = !decide (15 ≤ v.toNat ∧ v.toNat ≤ 240) ∧
    c.rateWindow = if defaulted then 60 else v.toNat
  | .countTolerance v => number = 7 ∧ defaulted = !decide (v.toNat ≤ 10000) ∧
    c.countTolerance = if defaulted then 100 else v.toNat
  | .scaleTolerance v => number = 8 ∧ defaulted = !decide (v.toNat ≤ 100) ∧
    c.scaleTolerance = if defaulted then 20 else v.toNat
  | .margin v => number = 9 ∧ defaulted = !decide (v.toNat ≤ 500) ∧ c.margin = if defaulted then 50 else v.toNat
  | .tareBand low high => number = 10 ∧ defaulted = !decide (high.toNat ≤ 5000 ∧ low.toNat ≤ high.toNat) ∧
    (c.tareMin, c.tareMax) = if defaulted then (350, 500) else (low.toNat, high.toNat)
  | .silverDensity low high => number = 11 ∧
    defaulted = !decide (1 ≤ low.toNat ∧ low.toNat ≤ high.toNat ∧ high.toNat ≤ 1000) ∧
    (c.silverLow, c.silverHigh) = if defaulted then (60, 650) else (low.toNat, high.toNat)
  | .bronzeDensity low high => number = 12 ∧
    defaulted = !decide (1 ≤ low.toNat ∧ low.toNat ≤ high.toNat ∧ high.toNat ≤ 5000) ∧
    (c.bronzeLow, c.bronzeHigh) = if defaulted then (3560, 3560) else (low.toNat, high.toNat)
  | .binMassLimit v => number = 13 ∧ defaulted = !decide (20000 ≤ v.toNat ∧ v.toNat ≤ 200000) ∧
    c.binMassLimit = if defaulted then 150000 else v.toNat
  | .inspectRacks v => number = 14 ∧ defaulted = !decide (v.toNat = 1 ∨ v.toNat = 2) ∧
    c.inspectRacks = if defaulted then 1 else v.toNat
  | .burstLength v => number = 15 ∧
    defaulted = !decide (v.toNat = 1 ∨ v.toNat = 4 ∨ v.toNat = 8 ∨ v.toNat = 16) ∧
    c.burstLength = if defaulted then 8 else v.toNat
  | .listOrder v => number = 16 ∧ defaulted = v.isNone ∧ c.listOrder = v.getD .ascending
  | .weekOffset v => number = 17 ∧ defaulted = !decide (v.toNat ≤ 6) ∧
    c.weekOffset = if defaulted then 0 else v.toNat
  | .activeLevels v => number = 18 ∧
    (∀ a b d e f g, v = { aLock := some a, aTip := some b, aReturn := some d, bLock := some e, bTip := some f,
                          bReturn := some g } →
      defaulted = false ∧
        c.active = { aLock := a, aTip := b, aReturn := d, bLock := e, bTip := f, bReturn := g }) ∧
    (v.aLock = none ∨ v.aTip = none ∨ v.aReturn = none ∨ v.bLock = none ∨ v.bTip = none ∨ v.bReturn = none →
      defaulted = true ∧ c.active = { aLock := true, aTip := true, aReturn := true, bLock := true, bTip := true,
                                      bReturn := true })

/-- The fields that a SET CONFIG does not carry keep their values (R204); `carried k` says that it carries field `k`. -/
def fieldsKept (before after : ConfigWord) (carried : Nat → Prop) : Prop :=
  (¬ carried 1 → after.verificationInterval = before.verificationInterval) ∧
  (¬ carried 2 → after.rackHoldMax = before.rackHoldMax) ∧ (¬ carried 3 → after.courierDelay = before.courierDelay) ∧
  (¬ carried 4 → after.openingDelay = before.openingDelay) ∧
  (¬ carried 5 → after.confirmWindow = before.confirmWindow) ∧ (¬ carried 6 → after.rateWindow = before.rateWindow) ∧
  (¬ carried 7 → after.countTolerance = before.countTolerance) ∧
  (¬ carried 8 → after.scaleTolerance = before.scaleTolerance) ∧ (¬ carried 9 → after.margin = before.margin) ∧
  (¬ carried 10 → after.tareMin = before.tareMin ∧ after.tareMax = before.tareMax) ∧
  (¬ carried 11 → after.silverLow = before.silverLow ∧ after.silverHigh = before.silverHigh) ∧
  (¬ carried 12 → after.bronzeLow = before.bronzeLow ∧ after.bronzeHigh = before.bronzeHigh) ∧
  (¬ carried 13 → after.binMassLimit = before.binMassLimit) ∧
  (¬ carried 14 → after.inspectRacks = before.inspectRacks) ∧
  (¬ carried 15 → after.burstLength = before.burstLength) ∧ (¬ carried 16 → after.listOrder = before.listOrder) ∧
  (¬ carried 17 → after.weekOffset = before.weekOffset) ∧ (¬ carried 18 → after.active = before.active)

/-- A closed lane keeps its drawer shut (R57): a drawer that is closed, empty and not locked, with no lock pulse under
way, gets one; any other is left as it is. -/
def locksShut (s : State) (before after : Lane) (x : LaneId) : Prop :=
  if before.inputs.drawerClosed = true ∧ before.inputs.bagPresent = false ∧ before.inputs.drawerLocked = false ∧
      before.lockGoal = none
  then after.lockGoal = some { wantLocked := true, confirmBy := none } ∧
    after.lock = { on := true, high := s.config.active.level x .lock, pulseEnd := some (s.now + 200) }
  else after.lockGoal = before.lockGoal ∧ after.lock = before.lock

end Sys2Proof.Machine

section
open Sys2Proof Sys2Proof.Machine

/-! ### The queue, the clock and the outcomes of a step -/

/-- A step takes the command at the front of the queue, with the queue's rest (section 95; log entry 15). -/
def Obligations.StepTakesFrontCommand : Prop :=
  ∀ (c : Instr) (rest : List Instr) (s : State), s.pending = c :: rest → step s = exec c { s with pending := rest }

/-- On an empty queue a step is 1 ms of the Custody Clock (R205; that it then stands for a step of the model is log
entry 15): the count goes up by one, the reading by one second at every thousandth step and from the last second of
day 65,535 to day 0, the rack ages grow while the clock is set and hold at their ceiling (R151), the expiries then due
join the queue and no other command does (log entry 15), and nothing else changes but a battery-low condition that may
clear off MAINS: it is never set so, stays as it is on MAINS, and its clearing changes no power state (R208; that it may
clear at any such moment is log entry 62). -/
def Obligations.EmptyQueueCountsMillisecond : Prop :=
  ∀ s : State, s.pending = [] → s.clock.sound →
    ∃ t, step s = .next t ∧ t.clock.sound ∧ t.clock.count = s.clock.count + 1 ∧ t.clock.isSet = s.clock.isSet ∧
      (t.clock.day * 86400 + t.clock.second) * 1000 + t.clock.milli =
        ((s.clock.day * 86400 + s.clock.second) * 1000 + s.clock.milli + 1) % 5662310400000 ∧
      (∀ k, t.sweep.ages.get k =
        if s.clock.isSet then min 4294967295000 (s.sweep.ages.get k + 1) else s.sweep.ages.get k) ∧
      (∀ c, c ∈ t.pending ↔ expiryDue t c) ∧
      (s.power.batteryLow = false ∨ s.onMains = true → t.power.batteryLow = s.power.batteryLow) ∧
      t = { s with clock := t.clock, power := { s.power with batteryLow := t.power.batteryLow },
                   sweep := { s.sweep with ages := t.sweep.ages }, pending := t.pending }

/-- No command changes the queue: what waits is taken in the order in which it came. -/
def Sys2Proof.Machine.commandsLeaveQueue : Prop :=
  ∀ (c : Instr) (s t : State), exec c s = .next t → t.pending = s.pending

/-- Every command in every state answers a next state, but a door change that R125 marks 'not possible'. -/
def Sys2Proof.Machine.onlyImpossibleDoorsStop : Prop :=
  ∀ (c : Instr) (s : State), (∃ t, exec c s = .next t) ∨
    ∃ i d, c = .doorChange i d ∧ exec c s = .fault .impossibleDoorEvent ∧ s.inRetention = false ∧
      (s.bin i).door ≠ d ∧ doorAction (s.bin i).latch (s.bin i).op d = .notPossible

/-! ### Frames and requests (chapter 11) -/

/-- The characters of any frame the layout allows, received in order by a link that waits for one, are one request:
its code is tested, then its form, and the request it spells is run in the event of its last check byte, in the state
with the assembly back in HUNT (R193, R194, R195). -/
def Obligations.FrameCharactersRunRequest : Prop :=
  ∀ (l : Link) (code : Byte) (payload : List Byte) (s : State), payload.length ≤ 120 → s.canTake l = true →
    (s.link l).assembly.phase = .hunt →
    receiveAll l (frame code payload) s =
      if carries l code.toNat then
        match parseRequest l code.toNat payload with
        | some i => exec i (s.hunt l)
        | none => .next ((s.hunt l).reply l code.toNat (.refuse .range))
      else .next ((s.hunt l).reply l code.toNat (.refuse .unknownRequest))

/-- A request other than TRIAL CHECK, CLEAR STRAYS, LIST, ENROL and EDIT is read back from the payload that carries its
fields in the sizes of R197, a SET CONFIG where it names neither field 16 nor field 18 and fits a frame: no bit of a
field is dropped, and no payload is longer than a frame holds. -/
def Obligations.PayloadsReadBack : Prop :=
  ∀ (i : Instr) (l : Link) (code : Nat) (p : List Byte), requestOf i = some (l, code) → payloadOf i = some p →
    p.length ≤ 120 ∧ parseRequest l code p = some i

/-- A request on a link that cannot take one waits without effect (the model's reading, log entry 6), and one whose
code its link does not carry is answered UNKNOWN REQUEST with nothing changed but the exchange (R195, test 1). -/
def Sys2Proof.Machine.requestsTurnedAway : Prop :=
  ∀ (i : Instr) (l : Link) (code : Nat) (s : State), requestOf i = some (l, code) →
    (s.canTake l = false → exec i s = .next s) ∧
    (s.canTake l = true → carries l code = false → exec i s = .next (s.reply l code (.refuse .unknownRequest)))

/-- The form of the requests with optional parts (R195, R197): a TRIAL CHECK payload carries 15 bytes of declaration and
capture, a LIST start and state set in 5, an ENROL card in 6, an EDIT index in 1; none of them is longer than its
optional parts and, where a part must be told from another, one byte for each make it. Every other payload is of no form
(RANGE); one of the form is the request of its code with the fields that the payload carries, in their order. How the
parts are told apart is log entry 3. -/
def Sys2Proof.Machine.optionalPartsSized : Prop :=
  ∀ (l : Link) (p : List Byte),
    (p.length < 15 ∨ 19 < p.length → parseRequest l 0x16 p = none) ∧ (2 < p.length → parseRequest l 0x38 p = none) ∧
    (p.length < 5 ∨ 13 < p.length → parseRequest l 0x43 p = none) ∧
    (p.length < 6 ∨ 15 < p.length → parseRequest l 0x60 p = none) ∧
    (p.length < 1 ∨ 17 < p.length → parseRequest l 0x61 p = none) ∧
    (∀ i, parseRequest l 0x16 p = some i → ∃ n v b m src, i = .trialCheck l n v b m src ∧
      (bytesOf 4 n.toNat ++ bytesOf 4 v.toNat ++ bytesOf 4 b.toNat ++ bytesOf 3 m.toNat ++ src.trust.toList ++
        src.index.toList).Sublist p) ∧
    (∀ i, parseRequest l 0x38 p = some i → ∃ count, i = .clearStrays l count ∧ count.toList.Sublist p) ∧
    (∀ i, parseRequest l 0x43 p = some i → ∃ start f, i = .list l start f ∧
      (bytesOf 3 start.toNat ++ bytesOf 2 f.states.toNat ++ f.flags.toList ++ f.depositor.toList).Sublist p) ∧
    (∀ i, parseRequest l 0x60 p = some i → ∃ card terms, i = .enrol l card terms ∧
      (bytesOf 6 card.toNat ++ terms.levels.toList ++ (terms.perBag.map (fun v => bytesOf 4 v.toNat)).getD [] ++
        terms.drops.toList).Sublist p) ∧
    (∀ i, parseRequest l 0x61 p = some i → ∃ index card terms, i = .edit l index card terms ∧
      ([index] ++ (card.map (fun c => bytesOf 6 c.toNat)).getD [] ++ terms.levels.toList ++
        (terms.perBag.map (fun v => bytesOf 4 v.toNat)).getD [] ++ terms.drops.toList).Sublist p)

/-- A field of a SET CONFIG as a payload carries it (R197, R203): its number and the bytes of its value, high byte
first, a pair's low before its high. The order of field 16 has the byte that stands for it in a reply (log entry 4), and
the levels of field 18 are read from its bytes as log entry 3 has it. -/
def fieldCarried (f : Byte × List Byte) (w : ConfigWrite) : Prop :=
  match w with
  | .verificationInterval v => f = (1, [v])
  | .rackHoldMax v => f = (2, [v])
  | .courierDelay v => f = (3, [v])
  | .openingDelay v => f = (4, [v])
  | .confirmWindow v => f = (5, [v])
  | .rateWindow v => f = (6, [v])
  | .countTolerance v => f = (7, bytesOf 4 v.toNat)
  | .scaleTolerance v => f = (8, bytesOf 3 v.toNat)
  | .margin v => f = (9, bytesOf 3 v.toNat)
  | .tareBand low high => f = (10, bytesOf 3 low.toNat ++ bytesOf 3 high.toNat)
  | .silverDensity low high => f = (11, bytesOf 2 low.toNat ++ bytesOf 2 high.toNat)
  | .bronzeDensity low high => f = (12, bytesOf 2 low.toNat ++ bytesOf 2 high.toNat)
  | .binMassLimit v => f = (13, bytesOf 3 v.toNat)
  | .inspectRacks v => f = (14, [v])
  | .burstLength v => f = (15, [v])
  | .listOrder v => f.1 = 16 ∧
      (v = some .ascending → f.2 = [Config.nameByte (.listOrder .ascending)]) ∧
      (v = some .wrap → f.2 = [Config.nameByte (.listOrder .wrap)]) ∧
      (v = none → ∀ order, f.2 ≠ [Config.nameByte (.listOrder order)])
  | .weekOffset v => f = (17, [v])
  | .activeLevels v => f.1 = 18 ∧ v =
      { aLock := Config.carriedLevel .a .lock f.2, aTip := Config.carriedLevel .a .tip f.2,
        aReturn := Config.carriedLevel .a .ret f.2, bLock := Config.carriedLevel .b .lock f.2,
        bTip := Config.carriedLevel .b .tip f.2, bReturn := Config.carriedLevel .b .ret f.2 }

/-- The form of SET CONFIG (R195, R197, R203, R204): fields one after another, each its number and then its value. One
field or more, each of the size of its number, are the SET CONFIG that carries them in their order. Without a field, and
with a number that is not 1 to 18 or a value cut short after any such fields, the payload is of no form (RANGE). The one
size of field 18, one byte to six, is log entry 3. -/
def Sys2Proof.Machine.setConfigFormed : Prop :=
  ∃ size : Nat → Nat,
    (∀ n, n ≠ 18 → size n = if n = 10 then 6 else if n = 7 ∨ n = 11 ∨ n = 12 then 4
      else if n = 8 ∨ n = 9 ∨ n = 13 then 3 else 1) ∧ 1 ≤ size 18 ∧ size 18 ≤ 6 ∧
    ∀ (l : Link) (fields : List (Byte × List Byte)),
      (∀ f ∈ fields, 1 ≤ f.1.toNat ∧ f.1.toNat ≤ 18 ∧ f.2.length = size f.1.toNat) →
      (fields = [] → parseRequest l 0x70 [] = none) ∧
      (fields ≠ [] → ∃ writes,
        parseRequest l 0x70 (fields.flatMap (fun f => f.1 :: f.2)) = some (.setConfig l writes) ∧
        List.Forall₂ fieldCarried fields writes) ∧
      (∀ (n : Byte) (v : List Byte), n.toNat = 0 ∨ 18 < n.toNat ∨ v.length < size n.toNat →
        parseRequest l 0x70 (fields.flatMap (fun f => f.1 :: f.2) ++ n :: v) = none)

/-- Requests that are not handed to their owner, or whose payload is of no form (R195), and the one form of SET CONFIG.
A request on a link that cannot take one, what tells optional parts apart, and the value of field 18 are the model's
readings (log entries 3 and 6). -/
def Obligations.RequestsTurnedAway : Prop := requestsTurnedAway ∧ optionalPartsSized ∧ setConfigFormed

/-- A refused request changes no state but its link's exchange, except a SCAN refused NOT LISTED (R196, R185). -/
def Obligations.RefusalsChangeNothing : Prop :=
  ∀ (i : Instr) (l : Link) (code : Nat) (s t : State) (why : Status), requestOf i = some (l, code) →
    s.canTake l = true → exec i s = .next t →
    (t.link l).exchange = .answering { code := BitVec.ofNat 8 code, answer := .refuse why } →
    t = s.reply l code (.refuse why) ∨ (why = .notListed ∧ ∃ tag, i = .scan l tag)

/-- The link events that are no requests (R193, R195, R199): UNKNOWN REQUEST is answered; a discarded frame and a
passed gap return the assembly to HUNT; a reply sent leaves the exchange IDLE; the line condition follows the line;
a framing error discards the partial frame; a start character in HUNT begins a frame and any other stays in HUNT; and no
character is taken on a stopped link or while a reply is being sent. Nothing else changes. The moment of the last
character that the assembly keeps in HUNT where none ended in the event is log entry 61. -/
def Sys2Proof.Machine.linkEventsAct : Prop :=
  ∀ (l : Link) (s : State),
    (∀ code : BitVec 8, s.canTake l = true → carries l code.toNat = false →
      exec (.unknownRequest l code) s = .next (s.reply l code.toNat (.refuse .unknownRequest))) ∧
    (s.linkRuns l = true → (s.link l).assembly.phase ≠ .hunt →
      exec (.frameDiscard l) s = .next (s.setLink l { s.link l with assembly := huntAt s.now }) ∧
      (50 < s.now - (s.link l).assembly.lastEnd →
        exec (.linkGapTimeout l) s = .next (s.setLink l { s.link l with assembly := huntAt s.now })) ∧
      (s.now - (s.link l).assembly.lastEnd ≤ 50 → exec (.linkGapTimeout l) s = .next s)) ∧
    (s.linkRuns l = true →
      exec (.replySent l) s = .next (s.setLink l { s.link l with exchange := .idle })) ∧
    (s.linkRuns l = true → (s.link l).line = .mark →
      exec (.lineConditionChange l true) s = .next (s.setLink l { s.link l with line := .space s.now false })) ∧
    (s.linkRuns l = true → (s.link l).line ≠ .mark →
      exec (.lineConditionChange l false) s =
        .next (s.setLink l { s.link l with line := .mark, assembly := huntAt s.now })) ∧
    (∀ ch, s.linkRuns l = true → (s.link l).exchange = .idle →
      exec (.characterReceived l ch true) s = .next (s.setLink l { s.link l with assembly := huntAt s.now })) ∧
    (∀ ch, s.canTake l = true → (s.link l).assembly.phase = .hunt → ∃ a : Assembly,
      a = (if ch = 0x7E then { phase := .length, bytes := [], lastEnd := s.now } else huntAt s.now) ∧
      exec (.characterReceived l ch false) s = .next (s.setLink l { s.link l with assembly := a })) ∧
    (∀ ch bad, s.linkRuns l = false ∨ (s.link l).exchange ≠ .idle →
      exec (.characterReceived l ch bad) s = .next s)

/-- A frame that is not good is dropped and nothing is answered (R193, R194): a length byte above 120 returns the
assembly to HUNT at once, and a frame whose two check bytes are not the check over its length, code and payload returns
it there in the event of its last byte. Nothing else changes. -/
def Sys2Proof.Machine.badFramesDropped : Prop :=
  ∀ (l : Link) (s : State), s.canTake l = true → (s.link l).assembly.phase = .hunt →
    (∀ n : Byte, 120 < n.toNat → receiveAll l [0x7E, n] s = .next (s.hunt l)) ∧
    (∀ (code hi lo : Byte) (payload : List Byte), payload.length ≤ 120 →
      [hi, lo] ≠ bytesOf 2 (crc (BitVec.ofNat 8 payload.length :: code :: payload)).toNat →
      receiveAll l (0x7E :: BitVec.ofNat 8 payload.length :: code :: (payload ++ [hi, lo])) s = .next (s.hunt l))

/-- A link reset, taken once a break has lasted 100 ms (R199): HUNT, IDLE, the cursor CLOSED and the notice set empty;
on the courier port with the crew logged in the manifest is closed too. The break's reset is then done, and nothing
else changes. The moment of the last character that the assembly then keeps is log entry 61. -/
def Sys2Proof.Machine.linkResetClearsLink : Prop :=
  ∀ (l : Link) (s : State) (since : Nat), s.linkRuns l = true → (s.link l).line = .space since false →
    since + 100 ≤ s.now →
    exec (.linkReset l) s = .next
      (let t := s.setLink l { assembly := huntAt s.now, exchange := .idle, line := .space since true, cursor := none,
                              notices := 0 }
       if l = .courier ∧ s.loggedIn = true then t.closeManifest else t)

/-! ### Reads carried on more than one link -/

/-- The reads report the values in force and change nothing but their link's exchange (R121, R157, R110, R204, R205,
R208, R142): each item as its rule lists it. The seconds of a read, rounded down, and the step interval in RETENTION are
log entries 46 and 47. -/
def Sys2Proof.Machine.sharedReadsReport : Prop :=
  ∀ (l : Link) (s : State), s.canTake l = true →
    (∃ slots : List (Fin 8), slots.Pairwise (fun a b => a < b) ∧
      (∀ k, k ∈ slots ↔ ∃ w, s.windows.get k = some w ∧
        w.days.getLsbD ((s.clock.day + s.config.weekOffset) % 7) = true ∧ w.startMinute ≤ s.clock.second / 60 ∧
        s.clock.second / 60 < w.endMinute) ∧
      exec (.readLevel l) s = .next (s.reply l 0x02 (.ok (.level
        { effective := s.levels.effective, target := s.levels.target, ceiling := s.levels.ceiling,
          duress := s.levels.duress, allowance := s.levels.allowance, openSlots := slots,
          branchRequest := s.levels.branchRequest, courierRequest := s.levels.courierRequest,
          loggedIn := decide (s.manifest.state = .active)
          raise := s.levels.raise.map (fun r =>
            let finish := if r.phase = .raising then r.delayEnd else r.confirmEnd.getD s.now
            { phase := r.phase, target := r.target, start := r.start, finish := momentAt s.clock finish,
              minutesLeft := (finish - s.now + 59999) / 60000,
              branchMayConfirm := decide (r.target.rank ≤ s.levels.branchRequest.rank),
              courierMayConfirm := decide (s.levels.courierRequest = .courier ∧ r.target = .courier) }) })))) ∧
    (∀ rack : RackIdx, exec (.readRack l (BitVec.ofNat 8 rack.val)) s = .next (s.reply l 0x03 (.ok (.rack
      { grant := if s.selection.isSome then .selection
          else if s.sweep.read.any (fun r => r.asker != .branch) then .read else .nothing
        selection := s.selection.map (fun x =>
          { owner := x.owner, rack := x.rack, phase := x.phase, holdEnd := x.holdEnd.map (momentAt s.clock),
            minutesLeft := x.holdEnd.map (fun n => (n - s.now + 59999) / 60000) })
        readRack := (s.sweep.read.filter (fun r => r.asker != .branch)).map (fun r => r.rack)
        bins := (List.finRange 16).map (fun slot =>
          let b := s.bin (binAt rack slot)
          { cls := b.cls, latch := b.latch, door := b.door, op := b.op
            permitted := (s.selection.filter (fun x => x.rack == rack)).map (fun x =>
              if x.owner = .branch then
                decide (s.levels.effective = .opened ∨ (s.levels.effective = .inspect ∧ b.cls = .inspect))
              else decide (1 ≤ s.levels.effective.rank ∧ s.manifest.state = .active)) }) })))) ∧
    (∀ rack : BitVec 8, 8 ≤ rack.toNat → exec (.readRack l rack) s = .next (s.reply l 0x03 (.refuse .unknown))) ∧
    (l ≠ .courier →
      exec (.readSweep l) s = .next (s.reply l 0x04 (.ok (.sweep
        { interval := s.config.verificationInterval
          stepInterval := s.config.verificationInterval * (if s.onMains then 7500 else 30000)
          threshold := s.config.verificationInterval * (if s.onMains then 60000 else 240000)
          pointer := s.sweep.pointer, pass := s.sweep.pass, step := s.sweep.step,
          pendingStep := s.sweep.pendingStep, nextExpiry := s.sweep.stepTimer.map (fun n => (n - s.now + 999) / 1000),
          read := s.sweep.read.map (fun r => (r.rack, r.asker, (s.now - r.startCount) / 1000)),
          ages := s.sweep.ages.items.map (fun ms => ms / 1000), overdue := s.sweep.overdue.items,
          strays := s.strays.entries.length, incomplete := s.strays.incomplete }))) ∧
      exec (.readWindows l) s = .next (s.reply l 0x05 (.ok (.windows s.windows.items
        ((s.clock.day + s.config.weekOffset) % 7) (s.clock.second / 60) s.levels.allowance))) ∧
      exec (.readConfig l) s = .next (s.reply l 0x06 (.ok (.config s.config))) ∧
      exec (.readClock l) s = .next (s.reply l 0x07 (.ok (.clock
        { day := s.clock.day, second := s.clock.second } s.clock.isSet
        ((s.clock.day + s.config.weekOffset) % 7) (s.clock.second / 60) s.config.weekOffset))) ∧
      exec (.readPower l) s = .next (s.reply l 0x08 (.ok (.power
        { state := s.power.state, batteryLow := s.power.batteryLow, lastStart := s.lastStart }))))

/-- READ NOTICES on any link (R201): the reply carries the set as it stands, and on the branch and security links the
last-start cause; the set is emptied, so that the attention line is deasserted; nothing else changes. -/
def Sys2Proof.Machine.readNoticesEmptiesSet : Prop :=
  ∀ (l : Link) (s : State), s.canTake l = true →
    ∃ t, exec (.readNotices l) s = .next t ∧
      t = (s.setLink l { s.link l with notices := 0 }).reply l 0x01
        (.ok (.notices (s.link l).notices (if l = .courier then none else some s.lastStart))) ∧
      (t.link l).attention = false ∧ (∀ m, m ≠ l → t.link m = s.link m)

/-- The bytes of a reply (R196, R198, R201): a status byte with its value of R196; nothing after a refusal, nor after an
OK without a result; at most 120 bytes in all; and after a READ NOTICES the set, then on the branch and security links
0 for RETENTION KEPT and 1 for RETENTION LOST. -/
def Sys2Proof.Machine.replyPayloads : Prop :=
  (∀ why : Status, ∃ v : Byte, v = (match why with
      | .ok => 0x00 | .busy => 0x01 | .state => 0x02 | .level => 0x03 | .unknown => 0x04 | .full => 0x05
      | .duplicate => 0x06 | .range => 0x07 | .notListed => 0x08 | .unknownRequest => 0x09) ∧
    ∀ code, Reply.payload { code := code, answer := .refuse why } = [v]) ∧
  (∀ r : Reply, r.payload.length ≤ 120) ∧
  (∀ code result, (Reply.payload { code := code, answer := .ok result }).head? = some 0x00) ∧
  (∀ code, Reply.payload { code := code, answer := .ok .nothing } = [0x00]) ∧
  (∀ code set, Reply.payload { code := code, answer := .ok (.notices set none) } = [0x00, set]) ∧
  (∀ code set, Reply.payload { code := code, answer := .ok (.notices set (some .retentionKept)) } = [0x00, set, 0]) ∧
  (∀ code set, Reply.payload { code := code, answer := .ok (.notices set (some .retentionLost)) } = [0x00, set, 1])

/-- The kinds of fields in replies (R197, R151): each is read back from its bytes over its whole range, in the size of
its row, high byte first; a tag serial and a card number as their packed digits; a capture over-range as 0xFFFFFF; a
margin bound in two's complement; a bin absent and a courier request of NONE as 0xFF; a moment as its day and second. A
SWEEP report carries each rack's age in four bytes. -/
def Sys2Proof.Machine.fieldsInTheirSizes : Prop :=
  (∀ n size : Nat, n < 256 ^ size → (bytesOf size n).length = size ∧ numberOf (bytesOf size n) = n) ∧
  (∀ n, receiptBytes n = bytesOf 3 n ∧ moneyBytes n = bytesOf 4 n ∧ massBytes n = bytesOf 2 n ∧
    massSumBytes n = bytesOf 3 n) ∧
  (∀ t : Tag, t < 10000000000 → (tagBytes t).length = 5 ∧ tagOf (BitVec.ofNat 40 (numberOf (tagBytes t))) = some t) ∧
  (∀ c : Card, c < 1000000000000 →
    (cardBytes c).length = 6 ∧ cardOf (BitVec.ofNat 48 (numberOf (cardBytes c))) = some c) ∧
  (∀ m, m ≤ 65535 → captureBytes (.mass m) = bytesOf 3 m) ∧ captureBytes .overRange = [0xFF, 0xFF, 0xFF] ∧
  (∀ v : Int, -2147483648 ≤ v → v < 2147483648 →
    (boundBytes v).length = 4 ∧ (BitVec.ofNat 32 (numberOf (boundBytes v))).toInt = v) ∧
  (∀ v : Level, levelBytes v = [BitVec.ofNat 8 v.rank]) ∧ courierRequestBytes .courier = [0x01] ∧
  courierRequestBytes .nothing = [0xFF] ∧ (∀ i : BinIdx, binBytes (some i) = [BitVec.ofNat 8 i.val]) ∧
  binBytes none = [0xFF] ∧ (∀ m : Moment, momentBytes m = bytesOf 2 m.day ++ bytesOf 3 m.second) ∧
  (∀ (c : CloseSet) (b : Byte), [b] = reasonBytes c → b.getLsbD 0 = c.level ∧ b.getLsbD 1 = c.power ∧
    b.getLsbD 2 = c.clock ∧ b.getLsbD 3 = c.branch ∧ b.getLsbD 4 = c.forced ∧ b.getLsbD 5 = c.jammed ∧
    b.getLsbD 6 = c.diverter ∧ b.getLsbD 7 = c.service) ∧
  (∀ r : SweepReport, ∃ before after, r.bytes = before ++
    (r.ages.zip r.overdue).flatMap (fun x => bytesOf 4 x.1 ++ [Config.nameByte (.condition .overdue x.2)]) ++ after)

/-- The sizes of results that hold no item whose layout the manual leaves open, and of the list items of R198, of which
so many fill a reply: four strays in READ STRAYS, and, with its seen-at bin, 12 bytes for an entry of READ MANIFEST
(R156, R170, R181, R198). In the results of TAKE BAG, PUT BACK and SCAN, whose record always has a receipt number (R3),
it stands first in three bytes with no mark (R160, R163, R184, R197), and a burst's next start in three bytes where it
is carried (R170). -/
def Sys2Proof.Machine.resultSizes : Prop :=
  (∀ x : StrayEntry, x.bytes.length = 21) ∧ (∀ x : ListEntry, x.bytes.length = 14) ∧
  (∀ x : ManifestEntryReport, (x.bytes true).length = 12 ∧ (x.bytes false).length = 11) ∧
  (∀ p n c inc (items : List StrayEntry), items.length ≤ 4 →
    Reply.payload { code := 0x37, answer := .ok (.strays p n c inc items) } =
      0x00 :: (bytesOf 1 p ++ bytesOf 1 n ++ bytesOf 1 c ++ [Config.nameByte (.condition .incomplete inc)] ++
        items.flatMap StrayEntry.bytes)) ∧
  (∀ a b c d, (Result.requested a b c d).bytes.length = 4) ∧ (∀ a b c, (Result.ceiling a b c).bytes.length = 3) ∧
  (∀ k m, (Result.selected k m).bytes.length = 6) ∧ (∀ p, (Result.posted p).bytes.length = 16) ∧
  (∀ r n, r.receipt = some n → (Result.taken r).bytes.length = 27 ∧ (Result.taken r).bytes.take 3 = bytesOf 3 n) ∧
  (∀ n i room mass heavy, (Result.putBack (some n) i room mass heavy).bytes.take 8 =
    bytesOf 3 n ++ [BitVec.ofNat 8 i.val] ++ bytesOf 1 room ++ bytesOf 3 mass) ∧
  (∀ n i left released, (Result.scanned (some n) i left released).bytes =
    bytesOf 3 n ++ binBytes i ++ bytesOf 1 left ++ bytesOf 1 released) ∧
  (∀ items next live, (Result.burst items (next != none) next live).bytes =
    Config.listMark .burst items.length ++ items.flatMap ListEntry.bytes ++
      [Config.nameByte (.condition .more (next != none))] ++ (next.map (bytesOf 3)).getD [] ++ bytesOf 2 live) ∧
  (∀ a b, (Result.retired a b).bytes.length = 3) ∧ (∀ a b c, (Result.counts a b c).bytes.length = 4) ∧
  (∀ a b c d, (Result.loggedOut a b c d).bytes.length = 5) ∧ (∀ m, (Result.clockSet m).bytes.length = 5) ∧
  (∀ m a b c d, (Result.clock m a b c d).bytes.length = 10)

/-- Every command answers a next state, but for an impossible door change, and leaves the queue alone. -/
def Obligations.CommandsAnswerAndLeaveQueue : Prop := commandsLeaveQueue ∧ onlyImpossibleDoorsStop

/-- The links' own events (R193, R195, R199). The order within a link reset and the events that are not due are the
model's readings (log entries 14 and 16). -/
def Obligations.LinkEventsAndReset : Prop := linkEventsAct ∧ badFramesDropped ∧ linkResetClearsLink

/-- The reads that more than one link carries (R110, R121, R142, R157, R201, R204, R205, R208), and the bytes of replies
(R151, R196 to R198, R201). Moments of running timers are reported as log entry 26 has them, and what the manual leaves
open of a layout is log entry 4. -/
def Obligations.SharedReads : Prop :=
  sharedReadsReport ∧ readNoticesEmptiesSet ∧ replyPayloads ∧ fieldsInTheirSizes ∧ resultSizes

/-! ### The lanes from the branch (chapter 3) -/

/-- LANE STATUS, in every state of the lane, reports every item that R76 lists, and changes nothing. -/
def Sys2Proof.Machine.laneStatusReports : Prop :=
  ∀ (x : LaneId) (s : State), s.canTake .branch = true →
    exec (.laneStatus .branch x) s = s.answers .branch 0x10 (.laneStatus
      { state := (s.lane x).state, reasons := (s.lane x).reasons, returnReason := (s.lane x).returnReason,
        bagLeft := (s.lane x).bagLeft, inputs := (s.lane x).inputs,
        outputsOn := ((s.lane x).lock.on, (s.lane x).tip.on, (s.lane x).ret.on),
        activeLevels := (s.config.active.level x .lock, s.config.active.level x .tip, s.config.active.level x .ret),
        session := (s.lane x).session.map (fun y => (y.stage, y.capture)),
        inFlightReceipt := (s.lane x).route.bind (fun y => (s.findTag y.record).bind (fun r => r.receipt)),
        reservedBin := (s.reservedOf x).bind (fun r => r.bin), holder := s.diverter.holder,
        lastServed := s.diverter.lastServed, waitingA := s.diverter.waitingA, waitingB := s.diverter.waitingB })

/-- LANE CLOSE adds BRANCH (R73), acting as R51 gives: an IDLE lane closes at once, a closed lane stays closed in the
state its set gives, and a lane in a session or a return runs on unchanged. Only that lane changes. -/
def Sys2Proof.Machine.laneCloseAddsBranch : Prop :=
  ∀ (x : LaneId) (s : State), s.canTake .branch = true →
    ∃ t : State, exec (.laneClose .branch x) s = t.answers .branch 0x11 .nothing ∧
      t = { s with laneA := t.laneA, laneB := t.laneB } ∧ t.lane x.other = s.lane x.other ∧
      (t.lane x).reasons = { (s.lane x).reasons with branch := true } ∧
      ((s.lane x).state = .idle ∨ (s.lane x).isClosed = true →
        (t.lane x).state = closedState (t.lane x).reasons ∧ (t.lane x).session = none ∧
          (t.lane x).route = (s.lane x).route) ∧
      ((s.lane x).state ≠ .idle → (s.lane x).isClosed = false →
        t.lane x = { s.lane x with reasons := { (s.lane x).reasons with branch := true } })

/-- LANE OPEN removes BRANCH, FORCED, JAMMED and DIVERTER and is answered with the resulting set; in SERVICE, or while
drawer-forced is set, it is refused STATE and leaves the set as it was (R73). A lane that stays closed goes to the
state the set gives, and with an empty set and a route in progress to CLOSED, keeping its drawer shut (R53, R57); a lane
in a session runs on. -/
def Sys2Proof.Machine.laneOpenRemovesReasons : Prop :=
  ∀ (x : LaneId) (s : State), s.canTake .branch = true →
    ((s.lane x).state = .service ∨ (s.lane x).inputs.drawerForced = true →
      exec (.laneOpen .branch x) s = s.turnsAway .branch 0x12 .state) ∧
    ((s.lane x).state ≠ .service → (s.lane x).inputs.drawerForced = false →
      ∃ (t : State) (left : CloseSet), left = { (s.lane x).reasons with branch := false, forced := false, jammed := false, diverter := false } ∧
        exec (.laneOpen .branch x) s = t.answers .branch 0x12 (.reasons left) ∧ (t.lane x).reasons = left ∧
        t.lane x.other = s.lane x.other ∧
        ((s.lane x).isClosed = true → left ≠ noReasons →
          (t.lane x).state = closedState left ∧ t = { s with laneA := t.laneA, laneB := t.laneB }) ∧
        ((s.lane x).isClosed = true → left = noReasons → (s.lane x).reasons ≠ noReasons → (s.lane x).route ≠ none →
          (t.lane x).state = .closed ∧ (t.lane x).route = (s.lane x).route ∧ locksShut s (s.lane x) (t.lane x) x ∧
            t = { s with laneA := t.laneA, laneB := t.laneB }) ∧
        ((s.lane x).isClosed = false → t = s.modLane x (fun y => { y with reasons := left })))

/-- The opening check (R53) that follows a LANE OPEN which empties a closed lane's set, when no route of the lane runs:
without a bag the lane reaches IDLE, its RESERVED record, if it has one, rolled back (R13, R43); with a bag and a
RESERVED record it resumes at WEIGH for the restart re-check, with RESTARTED added and the session made from the record
(R70, R14); with a bag and no record it stays CLOSED with the drawer's tag reader commanded (log entry 8). -/
def Sys2Proof.Machine.openingCheckDecides : Prop :=
  ∀ (x : LaneId) (s : State), s.canTake .branch = true → (s.lane x).state = .closed ∨ (s.lane x).state = .jammed →
    (s.lane x).inputs.drawerForced = false → (s.lane x).route = none → (s.lane x).reasons ≠ noReasons →
    (s.lane x).reasons.opened = noReasons →
    ∃ t : State, exec (.laneOpen .branch x) s = t.answers .branch 0x12 (.reasons noReasons) ∧
      (s.reservedOf x = none → (s.lane x).inputs.bagPresent = false →
        (t.lane x).state = .idle ∧ (t.lane x).session = none ∧ t = { s with laneA := t.laneA, laneB := t.laneB }) ∧
      (∀ r, s.reservedOf x = some r → (s.lane x).inputs.bagPresent = false →
        (t.lane x).state = .idle ∧ t.findTag r.tag = none ∧ rolledBack s t r) ∧
      (∀ r, s.reservedOf x = some r → (s.lane x).inputs.bagPresent = true →
        (t.lane x).state = .weigh ∧ (t.lane x).phaseTimer = some (s.now + 3000) ∧ (t.lane x).samples = [] ∧
          (t.lane x).session.map (fun y => (y.card, y.depositor, y.tag, y.decl)) =
            some (none, r.depositor, some r.tag, r.decl) ∧
          (∀ q ∈ t.register.records, q.tag = r.tag → q.flags.restarted = true) ∧ t.bins = s.bins) ∧
      (s.reservedOf x = none → (s.lane x).inputs.bagPresent = true →
        t.lane x = { s.lane x with reasons := noReasons, state := .closed, tagReader := some .openingCheck })

/-- LANE SERVICE is taken in IDLE, CLOSED or JAMMED with no RESERVED or IN_FLIGHT record and no route part, and is
otherwise refused STATE (R74): SERVICE joins the set, the lane goes to SERVICE and every output is reset. LANE SERVICE
END in SERVICE removes SERVICE and resets every output; with other reasons left the lane stays closed, and with none
the opening check follows. -/
def Sys2Proof.Machine.laneServiceAndEnd : Prop :=
  ∀ (x : LaneId) (s : State), s.canTake .branch = true →
    (((s.lane x).state = .idle ∨ (s.lane x).state = .closed ∨ (s.lane x).state = .jammed) →
      (∀ r ∈ s.register.records, r.lane = x → r.state ≠ .reserved ∧ r.state ≠ .inFlight) →
      (s.lane x).route = none →
      ∃ t : State, exec (.laneService .branch x) s = t.answers .branch 0x13 .nothing ∧
        t = { s with laneA := t.laneA, laneB := t.laneB } ∧ t.lane x.other = s.lane x.other ∧
        (t.lane x).state = .service ∧ (t.lane x).reasons = { (s.lane x).reasons with service := true } ∧
        (t.lane x).session = none ∧
        ∀ o, (t.lane x).output o = { on := false, high := !s.config.active.level x o, pulseEnd := none }) ∧
    ((s.lane x).state ≠ .idle → (s.lane x).state ≠ .closed → (s.lane x).state ≠ .jammed →
      exec (.laneService .branch x) s = s.turnsAway .branch 0x13 .state) ∧
    ((∃ r ∈ s.register.records, r.lane = x ∧ (r.state = .reserved ∨ r.state = .inFlight)) ∨ (s.lane x).route.isSome = true →
      exec (.laneService .branch x) s = s.turnsAway .branch 0x13 .state) ∧
    ((s.lane x).state ≠ .service →
      exec (.laneServiceEnd .branch x) s = s.turnsAway .branch 0x14 .state) ∧
    ((s.lane x).state = .service → (s.lane x).reasons.service = true → (s.lane x).route = none →
      ∃ (t : State) (left : CloseSet), left = { (s.lane x).reasons with service := false } ∧
        exec (.laneServiceEnd .branch x) s = t.answers .branch 0x14 .nothing ∧ (t.lane x).reasons = left ∧
        (left ≠ noReasons → (t.lane x).state = closedState left ∧ t = { s with laneA := t.laneA, laneB := t.laneB }) ∧
        (left = noReasons → s.reservedOf x = none → (s.lane x).inputs.bagPresent = false →
          (t.lane x).state = .idle ∧ t = { s with laneA := t.laneA, laneB := t.laneB }) ∧
        (left = noReasons → s.reservedOf x = none → (s.lane x).inputs.bagPresent = true →
          (t.lane x).state = .closed ∧ (t.lane x).tagReader = some .openingCheck) ∧
        t.lane x.other = s.lane x.other ∧
        ∀ o : Actuator, o ≠ .lock → (t.lane x).output o = { on := false, high := !s.config.active.level x o, pulseEnd := none })

/-- LANE DRIVE (R75): above 5,000 ms RANGE; outside SERVICE STATE; in SERVICE 1 to 5,000 ms sets the output at its
active level and starts its pulse timer, refused BUSY while that output's pulse runs; 0 resets the output and ends its
pulse. The reply carries the inputs as they stand. The order of the tests is the model's (log entry 10). -/
def Sys2Proof.Machine.laneDriveDrives : Prop :=
  ∀ (x : LaneId) (o : Actuator) (n : BitVec 16) (s : State), s.canTake .branch = true →
    (5000 < n.toNat → exec (.laneDrive .branch x o n) s = s.turnsAway .branch 0x15 .range) ∧
    (n.toNat ≤ 5000 → (s.lane x).state ≠ .service →
      exec (.laneDrive .branch x o n) s = s.turnsAway .branch 0x15 .state) ∧
    (n.toNat = 0 → (s.lane x).state = .service →
      exec (.laneDrive .branch x o n) s = (s.modLane x (fun y => y.setOutput o
        { on := false, high := !s.config.active.level x o, pulseEnd := none })).answers .branch 0x15
          (.inputs (s.lane x).inputs)) ∧
    (1 ≤ n.toNat → n.toNat ≤ 5000 → (s.lane x).state = .service → ((s.lane x).output o).pulseEnd.isSome = true →
      exec (.laneDrive .branch x o n) s = s.turnsAway .branch 0x15 .busy) ∧
    (1 ≤ n.toNat → n.toNat ≤ 5000 → (s.lane x).state = .service → ((s.lane x).output o).pulseEnd = none →
      exec (.laneDrive .branch x o n) s = (s.modLane x (fun y => y.setOutput o
        { on := true, high := s.config.active.level x o, pulseEnd := some (s.now + n.toNat) })).answers .branch 0x15
          (.inputs (s.lane x).inputs))

/-! ### The acceptance check (chapter 4) -/

/-- The sums and their clamping (R80): the low sum is Tmin plus the three low terms and the high sum Tmax plus the
three high terms (the terms of R79); each sum above 65,535 becomes 65,535 and any other is kept; and since the pairs
of the configuration are ordered, the low sum is no more than the high sum and clamping keeps that order. -/
def Obligations.SumsClampInOrder : Prop :=
  ∀ (c : ConfigWord) (d : Declaration) (capture : Reading) (trust : Nat),
    lowSum c d = c.tareMin + d.notes * 8 / 5000 + d.silver * c.silverLow / 100 + d.bronze * c.bronzeLow / 100 ∧
    (∀ n1 n2 n3, 500 * n1 < d.notes * 10 + 500 → d.notes * 10 ≤ 500 * n1 →
      100 * n2 < d.silver * c.silverHigh + 100 → d.silver * c.silverHigh ≤ 100 * n2 →
      100 * n3 < d.bronze * c.bronzeHigh + 100 → d.bronze * c.bronzeHigh ≤ 100 * n3 →
      highSum c d = c.tareMax + n1 + n2 + n3) ∧
    (acceptance c d capture trust).clampedLow = (if 65535 < lowSum c d then 65535 else lowSum c d) ∧
    (acceptance c d capture trust).clampedHigh = (if 65535 < highSum c d then 65535 else highSum c d) ∧
    (c.tareMin ≤ c.tareMax → c.silverLow ≤ c.silverHigh → c.bronzeLow ≤ c.bronzeHigh →
      lowSum c d ≤ highSum c d ∧
        (acceptance c d capture trust).clampedLow ≤ (acceptance c d capture trust).clampedHigh)

/-- The band and the margin bounds (R81, R82): lo is the clamped low less tol or 0, hi the clamped high plus tol or
65,535, so that 0 ≤ lo ≤ hi ≤ 65,535; the lower margin bound is lo − m as a signed value and the upper hi + m, neither
limited. -/
def Sys2Proof.Machine.bandInRange : Prop :=
  ∀ (c : ConfigWord) (d : Declaration) (capture : Reading) (trust : Nat), c.sound →
    ∃ a, a = acceptance c d capture trust ∧
      a.lo = (if a.clampedLow < c.scaleTolerance then 0 else a.clampedLow - c.scaleTolerance) ∧
      a.hi = (if 65535 < a.clampedHigh + c.scaleTolerance then 65535 else a.clampedHigh + c.scaleTolerance) ∧
      a.lo ≤ a.clampedLow ∧ a.clampedHigh ≤ a.hi ∧ a.lo ≤ a.hi ∧ a.hi ≤ 65535 ∧
      a.lowerMargin = (a.lo : Int) - (c.margin : Int) ∧ a.upperMargin = (a.hi : Int) + (c.margin : Int) ∧
      (a.lowerMargin < 0 → a.zone ≠ .light) ∧ (60000 < a.upperMargin → a.zone ≠ .overweight)

/-- The zones (R83): the first test of the list that the capture meets names its zone, the comparisons with the lower
margin bound being signed; LOW MARGIN is empty when m is 0 or lo is 0, HIGH MARGIN when m is 0, and a capture in the
band but below Tmin is UNDER TARE. -/
def Obligations.ZonesPartitionMasses : Prop :=
  ∀ (c : ConfigWord) (d : Declaration) (trust : Nat), c.sound →
    (acceptance c d .overRange trust).zone = .overLimit ∧
    ∀ m : Nat, ∃ a, a = acceptance c d (.mass m) trust ∧
      (a.zone = .overLimit ↔ 60000 < m) ∧
      (a.zone = .underTare ↔ m ≤ 60000 ∧ m < c.tareMin) ∧
      (a.zone = .inBand ↔ m ≤ 60000 ∧ c.tareMin ≤ m ∧ a.lo ≤ m ∧ m ≤ a.hi) ∧
      (a.zone = .lowMargin ↔ m ≤ 60000 ∧ c.tareMin ≤ m ∧ a.lowerMargin ≤ (m : Int) ∧ m < a.lo) ∧
      (a.zone = .highMargin ↔ m ≤ 60000 ∧ c.tareMin ≤ m ∧ a.hi < m ∧ (m : Int) ≤ a.upperMargin) ∧
      (a.zone = .light ↔ m ≤ 60000 ∧ c.tareMin ≤ m ∧ (m : Int) < a.lowerMargin) ∧
      (a.zone = .overweight ↔ m ≤ 60000 ∧ c.tareMin ≤ m ∧ a.upperMargin < (m : Int)) ∧
      (c.margin = 0 ∨ a.lo = 0 → a.zone ≠ .lowMargin) ∧ (c.margin = 0 → a.zone ≠ .highMargin) ∧
      (m ≤ 60000 → a.lo ≤ m → m ≤ a.hi → m < c.tareMin → a.zone = .underTare)

/-- The decision by the zone and the trust (R84), with the hold class that it carries. -/
def Sys2Proof.Machine.decisionTable : Prop :=
  ∀ (c : ConfigWord) (d : Declaration) (capture : Reading) (trust : Nat), trust ≤ 3 →
    ∃ a, a = acceptance c d capture trust ∧
      (a.zone = .overLimit → a.verdict = .ret .heavy) ∧ (a.zone = .underTare → a.verdict = .ret .empty) ∧
      (a.zone = .inBand → a.verdict = if trust = 0 then .hold else .accept) ∧
      (a.zone = .lowMargin ∨ a.zone = .highMargin →
        a.verdict = if trust = 0 ∨ trust = 1 then .hold else .accept) ∧
      (a.zone = .light → a.verdict = .hold) ∧
      (a.zone = .overweight → a.verdict = if trust = 0 then .ret .mismatch else .hold) ∧
      (a.verdict = .accept → a.holdClass = some .normal) ∧ (a.verdict = .hold → a.holdClass = some .inspect) ∧
      (∀ why, a.verdict = .ret why → a.holdClass = none)

/-- TRIAL CHECK (R88): with amounts in range and of their step, a total above 0, a capture in range and one trust
source, the reply carries the unit's whole answer for the trust given or the named entry's; otherwise it is refused
with RANGE, or UNKNOWN for a VACANT entry. It changes nothing. -/
def Sys2Proof.Machine.trialCheckAnswers : Prop :=
  ∀ (n v b : BitVec 32) (m : BitVec 24) (src : TrustSource) (s : State), s.canTake .branch = true →
    ∃ d : Declaration, d = { notes := n.toNat, silver := v.toNat, bronze := b.toNat } ∧
    ((2500000 < d.notes ∨ d.notes % 500 ≠ 0 ∨ 500000 < d.silver ∨ d.silver % 5 ≠ 0 ∨ 50000 < d.bronze ∨ d.total = 0 ∨
        (65535 < m.toNat ∧ m.toNat ≠ 0xFFFFFF) ∨ src.trust.any (fun t => 3 < t.toNat) = true ∨
        src.trust.isSome = src.index.isSome →
      exec (.trialCheck .branch n v b m src) s = s.turnsAway .branch 0x16 .range) ∧
    (d.notes ≤ 2500000 → d.notes % 500 = 0 → d.silver ≤ 500000 → d.silver % 5 = 0 → d.bronze ≤ 50000 → d.total ≠ 0 →
      ∀ reading, (m.toNat ≤ 65535 ∧ reading = .mass m.toNat) ∨ (m.toNat = 0xFFFFFF ∧ reading = .overRange) →
        (∀ t : BitVec 8, t.toNat ≤ 3 → src = { trust := some t, index := none } →
          exec (.trialCheck .branch n v b m src) s =
            s.answers .branch 0x16 (.trial (acceptance s.config d reading t.toNat))) ∧
        (∀ i, src = { trust := none, index := some i } →
          (∀ e, s.dep (depOf i) = some e →
            exec (.trialCheck .branch n v b m src) s =
              s.answers .branch 0x16 (.trial (acceptance s.config d reading e.trust))) ∧
          (s.dep (depOf i) = none →
            exec (.trialCheck .branch n v b m src) s = s.turnsAway .branch 0x16 .unknown))))

/-- LANE CLOSE and LANE OPEN (R51, R73). That a lane in a session runs on when reasons leave its set is the model's
reading (log entry 9). -/
def Obligations.LaneCloseAndOpen : Prop := laneCloseAddsBranch ∧ laneOpenRemovesReasons

/-- LANE STATUS and LANE DRIVE (R75, R76). -/
def Obligations.LaneStatusAndDrive : Prop := laneStatusReports ∧ laneDriveDrives

/-- The band, the margin bounds and the decision of an asking (R81, R82, R84), and TRIAL CHECK, which reports them all
(R88). That TRIAL CHECK tests every RANGE before UNKNOWN is the model's choice (log entry 41). -/
def Obligations.DecisionAndTrialCheck : Prop := bandInRange ∧ decisionTable ∧ trialCheckAnswers

/-- LANE SERVICE, LANE SERVICE END and the opening check (R53, R70, R74). What a bag without a record waits in, and
which lanes make the check, are the model's readings (log entries 8 and 9). -/
def Obligations.ServiceAndOpeningCheck : Prop := laneServiceAndEnd ∧ openingCheckDecides

/-! ### Levels and the time lock (chapter 6) -/

/-- RAISE READY goes to the branch link and to the courier port as said, and nothing else on a link changes (R117). A
link that is stopped is told nothing (R200, R209). -/
def raiseReadyTo (s t : State) (branch courier : Prop) : Prop :=
  (branch → s.inRetention = false → t.branch = { s.branch with notices := s.branch.notices ||| 0x80 }) ∧
  (courier → s.inRetention = false → t.courier = { s.courier with notices := s.courier.notices ||| 0x01 }) ∧
  (¬branch ∨ s.inRetention = true → t.branch = s.branch) ∧
  (¬courier ∨ s.inRetention = true → t.courier = s.courier)

/-- What a recomputation of the target leaves (R112 to R117), for an arbiter as `before` found it: the target is the
least of the ceiling, the allowance and the greater request; an effective level above it comes down to it and no
effective level goes up; no raise stays where the target is not above the effective level; otherwise a raise starts,
goes on or comes back from READY, its delay always counted from the raise start. Nothing else of the arbiter changes.
RAISE READY is raised on the link of each master that may confirm where the raise becomes READY, and where a READY raise
stays READY on the link of a master that can confirm it and could not confirm the raise found before; no notice is
raised otherwise (R117, R118). -/
def Obligations.ArbiterFollowsTarget : Prop :=
  ∀ (s : State) (before : LevelArbiter), ∃ t : State, ∃ v : Level, t = s.arbitrate before ∧
    v = leastLevel s.levels.ceiling (leastLevel s.levels.allowance
      (if s.levels.courierRequest = .courier then mostLevel s.levels.branchRequest .courier
       else s.levels.branchRequest)) ∧
    t.levels = { s.levels with target := v, effective := leastLevel v s.levels.effective, raise := t.levels.raise } ∧
    (v.rank ≤ s.levels.effective.rank → t.levels.raise = none) ∧
    (s.levels.effective.rank < v.rank →
      ∃ delay, delay = (if v = .courier then s.config.courierDelay else s.config.openingDelay) * 60000 ∧
      t = { s with levels := t.levels, branch := t.branch, courier := t.courier } ∧
      (s.levels.raise = none → raiseReadyTo s t (delay = 0 ∧ v.rank ≤ s.levels.branchRequest.rank)
        (delay = 0 ∧ s.levels.courierRequest = .courier ∧ v = .courier)) ∧
      (∀ r, s.levels.raise = some r → r.phase = .raising → raiseReadyTo s t
        (r.startCount + delay ≤ s.now ∧ v.rank ≤ s.levels.branchRequest.rank)
        (r.startCount + delay ≤ s.now ∧ s.levels.courierRequest = .courier ∧ v = .courier)) ∧
      (∀ r, s.levels.raise = some r → r.phase = .ready → raiseReadyTo s t
        (r.startCount + delay ≤ s.now ∧ v.rank ≤ s.levels.branchRequest.rank ∧
          ∀ b ∈ before.raise, before.branchRequest.rank < b.target.rank)
        (r.startCount + delay ≤ s.now ∧ s.levels.courierRequest = .courier ∧ v = .courier ∧
          ∀ b ∈ before.raise, before.courierRequest = .nothing ∨ b.target ≠ .courier)) ∧
      (s.levels.raise = none → t.levels.raise = some
        { phase := if delay = 0 then .ready else .raising, target := v, start := s.reading, startCount := s.now,
          delayEnd := s.now + delay,
          confirmEnd := if delay = 0 then some (s.now + s.config.confirmWindow * 60000) else none }) ∧
      (∀ r, s.levels.raise = some r → r.phase = .raising → t.levels.raise = some
        { r with
          phase := if r.startCount + delay ≤ s.now then .ready else .raising, target := v,
          delayEnd := r.startCount + delay,
          confirmEnd := if r.startCount + delay ≤ s.now then some (s.now + s.config.confirmWindow * 60000)
            else r.confirmEnd }) ∧
      (∀ r, s.levels.raise = some r → r.phase = .ready → t.levels.raise = some
        { r with
          phase := if r.startCount + delay ≤ s.now then .ready else .raising, target := v,
          delayEnd := r.startCount + delay,
          confirmEnd := if r.startCount + delay ≤ s.now then r.confirmEnd else none }))

/-- REQUEST LEVEL from the branch (R106): a value above OPEN is taken as OPEN, the branch request becomes the level
carried and the target is recomputed; the reply carries what results. The effective level only ever comes down. -/
def Sys2Proof.Machine.branchRequestTaken : Prop :=
  ∀ (b : BitVec 8) (s : State), s.canTake .branch = true →
    ∃ t : State, ∃ v : Level,
      v.rank = (if 3 < b.toNat then 3 else b.toNat) ∧
      exec (.requestLevel .branch b) s = t.answers .branch 0x20
        (.requested v t.levels.target t.levels.effective t.levels.raiseState) ∧
      t.levels = { s.levels with
        branchRequest := v
        target := leastLevel s.levels.ceiling (leastLevel s.levels.allowance
          (if s.levels.courierRequest = .courier then mostLevel v .courier else v))
        effective := leastLevel t.levels.target s.levels.effective
        raise := t.levels.raise }

/-- REQUEST LEVEL from the courier port (R107): refused STATE before LOGIN, RANGE for a level that is not COURIER or
NONE; otherwise the courier request becomes the level carried and the target is recomputed. -/
def Sys2Proof.Machine.courierRequestTaken : Prop :=
  ∀ (b : BitVec 8) (s : State), s.canTake .courier = true →
    (s.loggedIn = false → exec (.requestLevel .courier b) s = s.turnsAway .courier 0x20 .state) ∧
    (s.loggedIn = true → b.toNat ≠ 1 → b.toNat ≠ 255 →
      exec (.requestLevel .courier b) s = s.turnsAway .courier 0x20 .range) ∧
    (s.loggedIn = true → ∀ v : CourierRequest, (b.toNat = 1 ∧ v = .courier) ∨ (b.toNat = 255 ∧ v = .nothing) →
      ∃ t : State, exec (.requestLevel .courier b) s = t.answers .courier 0x20
          (.requested s.levels.branchRequest t.levels.target t.levels.effective t.levels.raiseState) ∧
        t.levels = { s.levels with
          courierRequest := v
          target := leastLevel s.levels.ceiling (leastLevel s.levels.allowance
            (if v = .courier then mostLevel s.levels.branchRequest .courier else s.levels.branchRequest))
          effective := leastLevel t.levels.target s.levels.effective
          raise := t.levels.raise })

/-- CONFIRM (R118): with a raise READY and a master able to confirm it, the raise target takes effect, the raise part
is removed, LEVEL CHANGED is raised on both links, and at OPEN both lanes get LEVEL (R105); the bins, the records and
the selection are not touched. Otherwise STATE, or LEVEL for a master that may not confirm. -/
def Obligations.ConfirmCompletesRaise : Prop :=
  ∀ (l : Link) (s : State), l ≠ .security → s.canTake l = true → s.levels.sound →
    (l = .courier → s.loggedIn = false → exec (.confirm l) s = s.turnsAway l 0x21 .state) ∧
    (s.levels.raise = none ∨ s.levels.raise.any (fun r => r.phase == .raising) = true →
      exec (.confirm l) s = s.turnsAway l 0x21 .state) ∧
    (∀ r, (l = .courier → s.loggedIn = true) → s.levels.raise = some r → r.phase = .ready →
      (if l = .branch then s.levels.branchRequest.rank < r.target.rank
       else s.levels.courierRequest = .nothing ∨ r.target ≠ .courier) →
      exec (.confirm l) s = s.turnsAway l 0x21 .level) ∧
    (∀ r, (l = .courier → s.loggedIn = true) → s.levels.raise = some r → r.phase = .ready →
      (if l = .branch then r.target.rank ≤ s.levels.branchRequest.rank
       else s.levels.courierRequest = .courier ∧ r.target = .courier) →
      ∃ t : State, exec (.confirm l) s = t.answers l 0x21 (.confirmed r.target) ∧
        t = { s with
          levels := { s.levels with effective := r.target, raise := none }
          laneA := t.laneA, laneB := t.laneB, security := t.security, courier := t.courier } ∧
        t.security.notices = s.security.notices ||| 0x80 ∧
        (s.inRetention = false → t.courier.notices = s.courier.notices ||| 0x02) ∧
        (r.target = .opened → ∀ x, (t.lane x).reasons = { (s.lane x).reasons with level := true } ∧
          ((s.lane x).state = .idle → (t.lane x).isClosed = true) ∧
          ((s.lane x).state ≠ .idle → (s.lane x).isClosed = false → (t.lane x).state = (s.lane x).state)) ∧
        (r.target ≠ .opened → t.laneA = s.laneA ∧ t.laneB = s.laneB))

/-- SET CEILING (R108) and the duress latch (R109): a value above OPEN is RANGE and a set latch STATE; otherwise the
ceiling becomes the level carried and the target is recomputed. RAISE DURESS brings ceiling, target and effective level
to SEALED; CLEAR DURESS clears the latch alone, STATE when it is clear. That the RANGE of SET CEILING is tested before
its STATE is log entry 43. -/
def Obligations.CeilingAndDuress : Prop :=
  ∀ s : State, s.canTake .security = true →
    (∀ b : BitVec 8, 3 < b.toNat → exec (.setCeiling .security b) s = s.turnsAway .security 0x22 .range) ∧
    (∀ b : BitVec 8, b.toNat ≤ 3 → s.levels.duress = true →
      exec (.setCeiling .security b) s = s.turnsAway .security 0x22 .state) ∧
    (∀ (b : BitVec 8) (v : Level), v.rank = b.toNat → s.levels.duress = false →
      ∃ t : State, exec (.setCeiling .security b) s =
          t.answers .security 0x22 (.ceiling v t.levels.target t.levels.effective) ∧
        t.levels = { s.levels with
          ceiling := v
          target := leastLevel v (leastLevel s.levels.allowance
            (if s.levels.courierRequest = .courier then mostLevel s.levels.branchRequest .courier
             else s.levels.branchRequest))
          effective := leastLevel t.levels.target s.levels.effective
          raise := t.levels.raise }) ∧
    (s.levels.duress = true → exec (.raiseDuress .security) s = s.answers .security 0x23 .nothing) ∧
    (s.levels.duress = false → ∃ t : State, exec (.raiseDuress .security) s = t.answers .security 0x23 .nothing ∧
      t.levels = { s.levels with
        duress := true, ceiling := .sealed, target := .sealed, effective := .sealed, raise := none }) ∧
    (s.levels.duress = true → exec (.clearDuress .security) s =
      State.answers { s with levels := { s.levels with duress := false } } .security 0x24 .nothing) ∧
    (s.levels.duress = false → exec (.clearDuress .security) s = s.turnsAway .security 0x24 .state)

/-- A lowering (R113, R114, R105): every recomputation of the target that finds it below the effective level, by
whatever command, brings the level down to it, and RAISE DURESS in particular to SEALED; the bins, the lanes and the
notices are left as `lowersLevel` says. That a bin keeps its latch state while it engages is log entry 20. -/
def Obligations.LoweringShutsBins : Prop :=
  (∀ (s t : State) (before : LevelArbiter), t = s.arbitrate before →
    s.levels.supported.rank < s.levels.effective.rank →
      t.levels.effective = s.levels.supported ∧ lowersLevel s t) ∧
  (∀ s : State, s.canTake .security = true → s.levels.duress = false → s.levels.effective ≠ .sealed →
    ∃ t : State, exec (.raiseDuress .security) s = t.answers .security 0x23 .nothing ∧
      t.levels.effective = .sealed ∧ lowersLevel s t) ∧
  (∀ (b : BitVec 8) (v : Level) (s : State), s.canTake .branch = true → v.rank = b.toNat →
    v.rank < s.levels.effective.rank → s.levels.courierRequest = .nothing →
    ∃ t : State, exec (.requestLevel .branch b) s =
        t.answers .branch 0x20 (.requested v t.levels.target t.levels.effective .nothing) ∧
      t.levels.effective = leastLevel s.levels.ceiling (leastLevel s.levels.allowance v) ∧ lowersLevel s t)

/-- SET WINDOW and CLEAR WINDOW (R110): the slot is written or emptied and the allowance recomputed in the same event;
a slot above 7, no day or a bit that is no day (log entry 12), a start above 1,439, an end above 1,440 or not after
the start, or a level above OPEN is RANGE. A new minute recomputes the allowance (R111). Where the allowance does not
change, nothing else does. A bit that is no day is the model's reading (log entry 12). -/
def Obligations.WindowsGiveAllowance : Prop :=
  ∀ s : State,
    (s.canTake .security = true →
      (∀ slot days level : BitVec 8, ∀ a b : BitVec 16,
        8 ≤ slot.toNat ∨ days.toNat = 0 ∨ 128 ≤ days.toNat ∨ 1439 < a.toNat ∨ 1440 < b.toNat ∨ b.toNat ≤ a.toNat ∨
          3 < level.toNat →
        exec (.setWindow .security slot days a b level) s = s.turnsAway .security 0x25 .range) ∧
      (∀ (i : Fin 8) (w : Window), w.sound →
        ∃ t : State, exec (.setWindow .security (BitVec.ofNat 8 i.val) w.days (BitVec.ofNat 16 w.startMinute)
            (BitVec.ofNat 16 w.endMinute) (BitVec.ofNat 8 w.level.rank)) s = t.answers .security 0x25 .nothing ∧
          t.windows = s.windows.set i (some w) ∧ allowanceOf t t.levels.allowance ∧
          (t.levels.allowance = s.levels.allowance → t = { s with windows := t.windows })) ∧
      (∀ slot : BitVec 8, 8 ≤ slot.toNat →
        exec (.clearWindow .security slot) s = s.turnsAway .security 0x26 .range) ∧
      (∀ i : Fin 8, ∃ t : State,
        exec (.clearWindow .security (BitVec.ofNat 8 i.val)) s = t.answers .security 0x26 .nothing ∧
          t.windows = s.windows.set i none ∧ allowanceOf t t.levels.allowance ∧
          (t.levels.allowance = s.levels.allowance → t = { s with windows := t.windows }))) ∧
    ∃ t : State, exec .newMinute s = .next t ∧ t.windows = s.windows ∧ allowanceOf t t.levels.allowance ∧
      (t.levels.allowance = s.levels.allowance → t = s)

/-- The delay end of a RAISING raise (R117): it becomes READY, its confirm end one confirm window ahead, and RAISE
READY goes to each master that may confirm. Before the delay end there is no such event. -/
def Sys2Proof.Machine.raiseDelayRunsOut : Prop :=
  ∀ (s : State) (r : Raise), s.levels.raise = some r → r.phase = .raising →
    (s.now < r.delayEnd → exec .raiseDelayExpiry s = .next s) ∧
    (r.delayEnd ≤ s.now → ∃ t : State, exec .raiseDelayExpiry s = .next t ∧
      t = { s with
        levels := { s.levels with raise := some { r with
          phase := .ready, confirmEnd := some (s.now + s.config.confirmWindow * 60000) } }
        branch := t.branch, courier := t.courier } ∧
      t.branch = { s.branch with notices :=
        if r.target.rank ≤ s.levels.branchRequest.rank ∧ s.inRetention = false then s.branch.notices ||| 0x80
        else s.branch.notices } ∧
      t.courier = { s.courier with notices :=
        if s.levels.courierRequest = .courier ∧ r.target = .courier ∧ s.inRetention = false
        then s.courier.notices ||| 0x01 else s.courier.notices })

/-- The lapse of a READY raise at its confirm end (R119): each master that may confirm has its request set back, the
branch's to the effective level and the courier's to NONE, and the target is recomputed; the effective level does not
change. Before the confirm end there is no such event. -/
def Sys2Proof.Machine.readyRaiseLapses : Prop :=
  ∀ (s : State) (r : Raise) (n : Nat), s.levels.sound → s.levels.raise = some r → r.phase = .ready →
    r.confirmEnd = some n →
    (s.now < n → exec .confirmLapse s = .next s) ∧
    (n ≤ s.now → ∃ t : State, exec .confirmLapse s = .next t ∧
      t.levels.effective = s.levels.effective ∧
      t.levels.branchRequest = (if r.target.rank ≤ s.levels.branchRequest.rank then s.levels.effective
        else s.levels.branchRequest) ∧
      t.levels.courierRequest = (if s.levels.courierRequest = .courier ∧ r.target = .courier then .nothing
        else s.levels.courierRequest) ∧
      t.levels.target = t.levels.supported ∧ t.levels.ceiling = s.levels.ceiling ∧
      t = { s with levels := t.levels, branch := t.branch, courier := t.courier })

/-- No command raises the effective level but a CONFIRM from a master's link, as a command or as the last character of
its frame, code 0x21 with no payload, whose check then stands; and the level then becomes the target of a raise that
stood READY (R104, R113, R118): whatever else happens, access never widens. -/
def Obligations.LevelRisesOnlyByConfirm : Prop :=
  ∀ (c : Instr) (s t : State), exec c s = .next t → s.levels.effective.rank < t.levels.effective.rank →
    ((∃ l, l ≠ .security ∧ c = .confirm l) ∨
      (∃ l b, l ≠ .security ∧ c = .characterReceived l b false ∧ (s.link l).assembly.phase = .check ∧
        0x7E :: (s.link l).assembly.bytes ++ [b] = frame 0x21 [] ∧ exec c s = exec (.confirm l) (s.hunt l))) ∧
      ∃ r, s.levels.raise = some r ∧ r.phase = .ready ∧ t.levels.effective = r.target

/-- Every step keeps the arbiter sound: the target the claims support, the effective level at or below ceiling and
allowance, the ceiling SEALED under duress, a raise only toward the target and above the effective level. -/
def Obligations.StepKeepsLevelsSound : Prop :=
  ∀ s t : State, s.levels.sound → step s = .next t → t.levels.sound

/-- REQUEST LEVEL from either master (R106, R107). The order of the courier's refusals is the model's reading (log
entry 24). -/
def Obligations.RequestLevelTaken : Prop := branchRequestTaken ∧ courierRequestTaken

/-- The delay end and the confirm end of a raise (R117, R119). The expiry that is not due is the model's reading (log
entry 16). -/
def Obligations.RaiseTimersAct : Prop := raiseDelayRunsOut ∧ readyRaiseLapses

/-! ### Racks, bins and latches (chapters 2 and 7) -/

/-- SELECT RACK (R127, R128), tested in order: no rack UNKNOWN; the courier port before LOGIN STATE; an INVENTORY pass
or a read holding the bus BUSY; another's selection, a RELEASING one, or a change of rack while the old one is not
quiet BUSY. Taken, it makes, renews or changes the selection with a fresh hold end; a change of rack abandons a RACK
INVENTORY read (R150), and a step WAITING for this very rack is skipped (R147). The hold end is reported as log entry
26 has it. -/
def Obligations.SelectRackClaims : Prop :=
  ∀ (l : Link) (s : State), l ≠ .security → s.canTake l = true →
    (∀ b : BitVec 8, 8 ≤ b.toNat → exec (.selectRack l b) s = s.turnsAway l 0x30 .unknown) ∧
    ∀ (rack : RackIdx) (c : Instr), c = .selectRack l (BitVec.ofNat 8 rack.val) →
      (l = .courier → s.loggedIn = false → exec c s = s.turnsAway l 0x30 .state) ∧
      ((l = .courier → s.loggedIn = true) →
        (s.inInventory = true ∨ s.grant = .read → exec c s = s.turnsAway l 0x30 .busy) ∧
        (∀ x, s.selection = some x →
          x.owner ≠ partyOf l ∨ x.phase = .releasing ∨ (x.rack ≠ rack ∧ s.rackQuiet x.rack = false) →
          exec c s = s.turnsAway l 0x30 .busy) ∧
        (s.inInventory = false → s.grant ≠ .read →
          (∀ x, s.selection = some x →
            x.owner = partyOf l ∧ x.phase = .active ∧ (x.rack = rack ∨ s.rackQuiet x.rack = true)) →
          ∃ t : State,
            exec c s = t.answers l 0x30 (.selected rack (momentAt s.clock (s.now + s.config.rackHoldMax * 60000))) ∧
            t = { s with selection := t.selection, sweep := t.sweep } ∧
            t.selection = some { owner := partyOf l, rack := rack, phase := .active,
                                 holdEnd := some (s.now + s.config.rackHoldMax * 60000) } ∧
            (s.sweep.step ≠ .waiting ∨ s.sweep.pointer ≠ rack →
              t.sweep = { s.sweep with read :=
                if s.selectedRack ≠ some rack ∧ s.sweep.read.any (fun r => r.asker == .branch) = true then none
                else s.sweep.read }) ∧
            (s.sweep.step = .waiting → s.sweep.pointer = rack → s.sweep.pendingStep = false →
              t.sweep.pointer = s.sweep.pointer + 1 ∧ t.sweep.step = .timing ∧
                t.sweep.pass = if s.sweep.pointer = 7 then s.sweep.pass + 1 else s.sweep.pass)))

/-- UNLATCH BIN (R130, R120), tested in order: no slot UNKNOWN; no ACTIVE selection of the sender STATE; a latch
operation in progress BUSY; FAULT STATE; the level LEVEL; for the courier a bin without a LISTED record STATE. Taken,
a LATCHED bin's latch releases, an UNLATCHED bin stays so with a wait for its door ended, and an UNSECURED bin becomes
UNLATCHED. -/
def Sys2Proof.Machine.unlatchBinActs : Prop :=
  ∀ (l : Link) (s : State), l ≠ .security → s.canTake l = true →
    (∀ b : BitVec 8, 16 ≤ b.toNat → exec (.unlatchBin l b) s = s.turnsAway l 0x31 .unknown) ∧
    ∀ (slot : Fin 16) (c : Instr), c = .unlatchBin l (BitVec.ofNat 8 slot.val) →
      ((∀ x, s.selection = some x → x.owner ≠ partyOf l ∨ x.phase = .releasing) →
        exec c s = s.turnsAway l 0x31 .state) ∧
      ∀ (x : Selection) (i : BinIdx), s.selection = some x → x.owner = partyOf l → x.phase = .active →
        i = binAt x.rack slot →
        ((s.bin i).op.inProgress = true → exec c s = s.turnsAway l 0x31 .busy) ∧
        ((s.bin i).op.inProgress = false → (s.bin i).latch = .fault → exec c s = s.turnsAway l 0x31 .state) ∧
        ((s.bin i).op.inProgress = false → (s.bin i).latch ≠ .fault →
          (∀ permitted : Prop,
            (permitted ↔ if l = .branch then
                s.levels.effective = .opened ∨ (s.levels.effective = .inspect ∧ (s.bin i).cls = .inspect)
              else 1 ≤ s.levels.effective.rank ∧ s.loggedIn = true) →
            (¬ permitted → exec c s = s.turnsAway l 0x31 .level) ∧
            (permitted → l = .courier →
              (∀ t ∈ (s.bin i).contents, ∀ r, s.findTag t = some r → r.state ≠ .listed) →
              exec c s = s.turnsAway l 0x31 .state) ∧
            (permitted →
              (l = .courier → ∃ t ∈ (s.bin i).contents, ∃ r, s.findTag t = some r ∧ r.state = .listed) →
              exec c s = (s.modBin i (fun b =>
                match b.latch with
                | .latched => { b with op := .releasing s.now }
                | .unlatched => { b with op := .idle }
                | _ => { b with latch := .unlatched })).answers l 0x31 .nothing)))

/-- RELATCH BIN (R132): no slot UNKNOWN, no ACTIVE selection of the sender STATE, an operation in progress BUSY, the
slot tested before the selection (log entry 54). With the door CLOSED an engage begins, but of a LATCHED bin, which
answers OK; with the door OPEN an UNLATCHED bin waits for its door, an UNSECURED or LATCHED one answers OK unchanged,
and a FAULT bin is refused STATE. -/
def Sys2Proof.Machine.relatchBinActs : Prop :=
  ∀ (l : Link) (s : State), l ≠ .security → s.canTake l = true →
    (∀ b : BitVec 8, 16 ≤ b.toNat → exec (.relatchBin l b) s = s.turnsAway l 0x32 .unknown) ∧
    ∀ (slot : Fin 16) (c : Instr), c = .relatchBin l (BitVec.ofNat 8 slot.val) →
      ((∀ x, s.selection = some x → x.owner ≠ partyOf l ∨ x.phase = .releasing) →
        exec c s = s.turnsAway l 0x32 .state) ∧
      ∀ (x : Selection) (i : BinIdx), s.selection = some x → x.owner = partyOf l → x.phase = .active →
        i = binAt x.rack slot →
        ((s.bin i).op.inProgress = true → exec c s = s.turnsAway l 0x32 .busy) ∧
        ((s.bin i).op.inProgress = false →
          ((s.bin i).door = .closed → (s.bin i).latch = .latched → exec c s = s.answers l 0x32 .nothing) ∧
          ((s.bin i).door = .closed → (s.bin i).latch ≠ .latched →
            exec c s = (s.modBin i (fun b => { b with op := .engaging s.now true })).answers l 0x32 .nothing) ∧
          ((s.bin i).door = .opened → (s.bin i).latch = .fault → exec c s = s.turnsAway l 0x32 .state) ∧
          ((s.bin i).door = .opened → (s.bin i).latch = .unlatched → (s.bin i).op = .idle →
            exec c s = (s.modBin i (fun b => { b with op := .waitingForDoor s.now })).answers l 0x32 .nothing) ∧
          ((s.bin i).door = .opened → (s.bin i).latch ≠ .fault →
            ((s.bin i).latch ≠ .unlatched ∨ (s.bin i).op ≠ .idle) → exec c s = s.answers l 0x32 .nothing))

/-- RELEASE RACK (R134): refused STATE for a sender that does not hold the selection and for the courier before LOGIN
(log entry 11); an ACTIVE selection is let go; a RELEASING one is answered OK unchanged. -/
def Sys2Proof.Machine.releaseRackLetsGo : Prop :=
  ∀ (l : Link) (s : State), l ≠ .security → s.canTake l = true →
    ((l = .courier ∧ s.loggedIn = false) ∨ (∀ x, s.selection = some x → x.owner ≠ partyOf l) →
      exec (.releaseRack l) s = s.turnsAway l 0x33 .state) ∧
    (∀ x, (l = .courier → s.loggedIn = true) → s.selection = some x → x.owner = partyOf l →
      (x.phase = .releasing → exec (.releaseRack l) s = s.answers l 0x33 .nothing) ∧
      (x.phase = .active → ∃ t : State, exec (.releaseRack l) s = t.answers l 0x33 .nothing ∧ letsRackGo s t x))

/-- The hold expiry of an ACTIVE selection (R129): the rack is let go as at a RELEASE RACK and HOLD EXPIRED is raised on
the security link. Before the hold end there is no such event. -/
def Sys2Proof.Machine.holdExpiryLetsGo : Prop :=
  ∀ (s : State) (x : Selection) (n : Nat), s.selection = some x → x.phase = .active → x.holdEnd = some n →
    (s.now < n → exec .holdExpiry s = .next s) ∧
    (n ≤ s.now → ∃ t : State, exec .holdExpiry s = .next t ∧ letsRackGo s t x ∧ t.security.notices &&& 0x04 ≠ 0)

/-- WITHDRAW BIN and RESTORE BIN (R32, R34): no bin UNKNOWN. A withdrawal is taken in any state and makes the bin
OUT_OF_SERVICE; a bin of the branch's that stood unlatched by its INSPECT class alone is then let go (R114), relatching
where its door is CLOSED and UNSECURED with BIN UNSECURED on the security link where it is OPEN (R135). A restore gives
the class of the bin's rack, refused STATE for a bin that is not OUT_OF_SERVICE or is in FAULT. That a bin let go keeps
its latch state while it engages is log entry 20. -/
def Obligations.WithdrawAndRestoreBins : Prop :=
  ∀ s : State, s.canTake .branch = true →
    (∀ b : BitVec 8, 128 ≤ b.toNat → exec (.withdrawBin .branch b) s = s.turnsAway .branch 0x34 .unknown ∧
      exec (.restoreBin .branch b) s = s.turnsAway .branch 0x35 .unknown) ∧
    ∀ (i : BinIdx) (b : BitVec 8), b.toNat = i.val →
      (∃ t : State, exec (.withdrawBin .branch b) s = t.answers .branch 0x34 .nothing ∧
        (t.bin i).cls = .outOfService ∧ (∀ j, j ≠ i → (t.bin j).cls = (s.bin j).cls) ∧
        (∀ j, (t.bin j).contents = (s.bin j).contents ∧ (t.bin j).massSum = (s.bin j).massSum) ∧
        t.register = s.register ∧
        (s.selection = none → t = s.modBin i (fun x => { x with cls := .outOfService })) ∧
        (∀ x, s.selection = some x → x.owner = .branch → x.rack = rackOf i → s.levels.effective = .inspect →
          (s.bin i).standsOpen = true →
          ((s.bin i).door = .closed → (t.bin i).latch = .unlatched ∧ (t.bin i).op = .engaging s.now false) ∧
          ((s.bin i).door = .opened → (t.bin i).latch = .unsecured ∧ (t.bin i).op = .idle ∧
            t.security.notices &&& 0x02 ≠ 0))) ∧
      ((s.bin i).cls ≠ .outOfService ∨ (s.bin i).latch = .fault →
        exec (.restoreBin .branch b) s = s.turnsAway .branch 0x35 .state) ∧
      ((s.bin i).cls = .outOfService → (s.bin i).latch ≠ .fault →
        exec (.restoreBin .branch b) s = (s.modBin i (fun x =>
          { x with cls := if i.val < (if s.config.inspectRacks = 2 then 96 else 112) then .normal else .inspect })).answers
            .branch 0x35 .nothing)

/-- A door change (R125, R126, R133, R135): a LATCHED bin opened past its latch becomes UNSECURED with BIN UNSECURED; an
engage is stopped by the door, a FAULT bin staying in FAULT, an UNLATCHED bin of a RELATCH BIN waiting for its door
where its rack is still selected and the level conditions of R120 permit it to the selection's owner, and every other
becoming UNSECURED; an UNSECURED bin at rest and a bin that waits begin to engage as the door closes; in every other row
the door field alone changes. The stop of an engage may be what a RELEASING selection waited for: it then ends, and the
bus passes on (R134, R147); no other door change touches the selection. That the selection may meanwhile be RELEASING is the model's reading (log entry 19). A
position already shown, or in RETENTION, is no event. -/
def Sys2Proof.Machine.doorChangesAct : Prop :=
  ∀ (i : BinIdx) (d : Door) (s : State),
    ((s.bin i).door = d ∨ s.inRetention = true → exec (.doorChange i d) s = .next s) ∧
    (s.inRetention = false → (s.bin i).door ≠ d → (s.bin i).doorSound →
      ∃ t : State, exec (.doorChange i d) s = .next t ∧ (t.bin i).door = d ∧ (∀ j, j ≠ i → t.bin j = s.bin j) ∧
        (t.bin i).cls = (s.bin i).cls ∧ (t.bin i).contents = (s.bin i).contents ∧ t.register = s.register ∧
        t = { s with bins := t.bins, security := t.security, selection := t.selection, sweep := t.sweep,
                     power := t.power } ∧
        ((s.bin i).op.isEngaging = false →
          t.selection = s.selection ∧ t.sweep = s.sweep ∧ t.power = s.power) ∧
        ((s.bin i).op.isEngaging = true → selectionEndsWhenQuiet s t ∧
          (s.selection ≠ none → t.selection = none → busPasses s t)) ∧
        ((s.bin i).op.releasingSince.isSome = true ∨ (s.bin i).latch = .unlatched ∧ (s.bin i).op = .idle ∨
            (s.bin i).latch = .fault ∧ (s.bin i).op = .idle ∨
            (s.bin i).latch = .unsecured ∧ (s.bin i).op = .idle ∧ d = .opened →
          t = s.modBin i (fun b => { b with door := d, doorFilter := (d, d) })) ∧
        ((s.bin i).latch = .latched → (s.bin i).op = .idle →
          (t.bin i).latch = .unsecured ∧ (t.bin i).op = .idle ∧ t.security.notices &&& 0x02 ≠ 0) ∧
        ((s.bin i).latch = .unsecured → (s.bin i).op = .idle → d = .closed →
          (t.bin i).latch = .unsecured ∧ (t.bin i).op = .engaging s.now false) ∧
        (∀ n, (s.bin i).op = .waitingForDoor n →
          (t.bin i).latch = .unlatched ∧ (t.bin i).op = .engaging s.now true) ∧
        (∀ n byRelatch, (s.bin i).op = .engaging n byRelatch →
          ((s.bin i).latch = .fault → (t.bin i).latch = .fault ∧ (t.bin i).op = .idle) ∧
          ∃ permitted : Prop,
            (permitted ↔ ∃ x, s.selection = some x ∧ x.rack = rackOf i ∧ levelPermits s x.owner i) ∧
            ((s.bin i).latch = .unlatched → byRelatch = true → permitted →
              (t.bin i).latch = .unlatched ∧ (t.bin i).op = .waitingForDoor s.now) ∧
            ((s.bin i).latch = .unsecured ∨ (s.bin i).latch = .unlatched ∧ (byRelatch = false ∨ ¬ permitted) →
              (t.bin i).latch = .unsecured ∧ (t.bin i).op = .idle ∧ t.security.notices &&& 0x02 ≠ 0)))

/-- The latch events (R131, R133): a release confirmed makes the bin UNLATCHED, and where its selection is no longer
ACTIVE or the level no longer permits it the bin is let go in the same event; an engage confirmed makes it LATCHED and
begins its pocket read, 400 ms long. A RELEASING selection whose rack is quiet after one of these events, or after a
release or an engage that failed, ends in it, and the bus passes on (R134, R147). A timeout before its second is up is
no event. -/
def Sys2Proof.Machine.latchesConfirm : Prop :=
  ∀ (i : BinIdx) (s : State),
    (∀ n, (s.bin i).op = .releasing n → ∃ t : State, exec (.latchReleased i) s = .next t ∧
      (∀ j, j ≠ i → t.bin j = s.bin j) ∧ t.register = s.register ∧
      t = { s with bins := t.bins, security := t.security, selection := t.selection, sweep := t.sweep,
                   power := t.power } ∧
      selectionEndsWhenQuiet s t ∧ (s.selection ≠ none → t.selection = none → busPasses s t) ∧
      (∀ x, s.selection = some x → x.rack = rackOf i → x.phase = .active → levelPermits s x.owner i →
        t = s.modBin i (fun b => { b with latch := .unlatched, op := .idle })) ∧
      ((∀ x, s.selection = some x →
          x.rack ≠ rackOf i ∨ x.phase = .releasing ∨ ¬ levelPermits s x.owner i) →
        ((s.bin i).door = .closed → t.bin i = { s.bin i with latch := .unlatched, op := .engaging s.now false }) ∧
        ((s.bin i).door = .opened → t.bin i = { s.bin i with latch := .unsecured, op := .idle } ∧
          t.security.notices &&& 0x02 ≠ 0))) ∧
    (∀ n byRelatch, (s.bin i).op = .engaging n byRelatch → ∃ t : State, exec (.latchEngaged i) s = .next t ∧
      (∀ j, j ≠ i → t.bin j = s.bin j) ∧ t.register = s.register ∧
      t = { s with bins := t.bins, selection := t.selection, sweep := t.sweep, power := t.power } ∧
      selectionEndsWhenQuiet s t ∧ (s.selection ≠ none → t.selection = none → busPasses s t) ∧
      t.bin i = { s.bin i with
        latch := .latched, op := .idle, pocketReads := (s.bin i).pocketReads ++ [s.now + 400] }) ∧
    (∀ n c, ((s.bin i).op = .releasing n ∧ c = .releaseTimeout i) ∨
        ((∃ byRelatch, (s.bin i).op = .engaging n byRelatch) ∧ c = .engageTimeout i) → n + 1000 ≤ s.now →
      ∃ t : State, exec c s = .next t ∧ selectionEndsWhenQuiet s t ∧
        (s.selection ≠ none → t.selection = none → busPasses s t)) ∧
    ((s.bin i).op.releasingSince = none → exec (.latchReleased i) s = .next s) ∧
    ((s.bin i).op.engagingSince = none → exec (.latchEngaged i) s = .next s) ∧
    (∀ n, (s.bin i).op = .releasing n → s.now < n + 1000 → exec (.releaseTimeout i) s = .next s) ∧
    (∀ n byRelatch, (s.bin i).op = .engaging n byRelatch → s.now < n + 1000 → exec (.engageTimeout i) s = .next s)

/-- An unlatch or a relatch that fails (R33, R131, R133): at the end of its 1 s the bin's latch state becomes FAULT and
in the same event its class becomes OUT_OF_SERVICE, which it stays if it was so already; its contents and mass sum are
unchanged; BIN UNSECURED is raised. Where its selection was RELEASING and nothing of the rack is left to relatch, the
selection ends (R134); otherwise it stays as it is. -/
def Obligations.FailedLatchIsFault : Prop :=
  ∀ (i : BinIdx) (s : State) (n : Nat) (c : Instr),
    ((s.bin i).op = .releasing n ∧ c = .releaseTimeout i) ∨
      ((∃ byRelatch, (s.bin i).op = .engaging n byRelatch) ∧ c = .engageTimeout i) →
    n + 1000 ≤ s.now → ∃ t : State, exec c s = .next t ∧
      t.bin i = { s.bin i with latch := .fault, cls := .outOfService, op := .idle } ∧
      (∀ j, j ≠ i → t.bin j = s.bin j) ∧ t.register = s.register ∧ t.security.notices &&& 0x02 ≠ 0 ∧
      t = { s with bins := t.bins, security := t.security, selection := t.selection, sweep := t.sweep,
                   power := t.power } ∧
      selectionEndsWhenQuiet s t

/-- Every step keeps the doors sound (R125), and in a door-sound state no command stops: the door changes that the
table marks 'not possible' do not arise. -/
def Obligations.DoorsStaySound : Prop :=
  ∀ (c : Instr) (s : State), s.doorsSound → ∃ t : State, exec c s = .next t ∧ t.doorsSound

/-- Every step keeps the cabinet shut but where its opening is allowed (R114, R120, R134, R143): a bin that stands
unlatched with no latch operation does so only under an ACTIVE selection of its rack whose owner the level permits it. A
bin WAITING FOR DOOR, which is UNLATCHED too (R132), is asked only to be in the selected rack, in any phase of the
selection and with no permission, which is the model's reading (log entry 19). A bin whose engage is under way is not
meant (log entry 20). -/
def Obligations.BinsOpenOnlyUnderSelection : Prop :=
  ∀ s t : State, s.levels.sound → s.doorsSound → s.accessSound → step s = .next t → t.accessSound

/-- UNLATCH BIN and RELATCH BIN (R130, R132). That RELATCH BIN tests the slot before the selection and the login is the
model's choice (log entry 54). -/
def Obligations.UnlatchAndRelatch : Prop := unlatchBinActs ∧ relatchBinActs

/-- RELEASE RACK and the hold expiry (R129, R134). The test of the login, the expiry that is not due, the latch state
during an engage, and that a waiting read takes the freed bus at once are the model's readings (log entries 11, 16, 20
and 63). -/
def Obligations.ReleaseAndHoldExpiry : Prop := releaseRackLetsGo ∧ holdExpiryLetsGo

/-- The events of doors and latches (R125, R126, R131, R133 to R135, R147). What is no event, the latch state during an
engage, and that a waiting read takes the freed bus at once are the model's readings (log entries 16, 17, 19, 20, 63). -/
def Obligations.DoorsAndLatches : Prop := doorChangesAct ∧ latchesConfirm

/-! ### Rack reads, bin checks and the sweep (chapters 7 and 8) -/

/-- RACK INVENTORY (R150), tested in order: no rack UNKNOWN; a rack that is not that of the branch's ACTIVE selection
STATE; a read in progress, or a bin of the rack UNLATCHED, releasing or engaging, BUSY; otherwise a read of the rack
begins, with asker BRANCH. -/
def Sys2Proof.Machine.rackInventoryBeginsRead : Prop :=
  ∀ s : State, s.canTake .branch = true →
    (∀ b : BitVec 8, 8 ≤ b.toNat → exec (.rackInventory .branch b) s = s.turnsAway .branch 0x36 .unknown) ∧
    ∀ (rack : RackIdx) (c : Instr), c = .rackInventory .branch (BitVec.ofNat 8 rack.val) →
      ((∀ x, s.selection = some x → x.owner = .courier ∨ x.phase = .releasing ∨ x.rack ≠ rack) →
        exec c s = s.turnsAway .branch 0x36 .state) ∧
      ∀ x, s.selection = some x → x.owner = .branch → x.phase = .active → x.rack = rack →
        (s.sweep.read.isSome = true ∨
            (∃ slot, (s.bin (binAt rack slot)).latch = .unlatched ∨ (s.bin (binAt rack slot)).op.inProgress = true) →
          exec c s = s.turnsAway .branch 0x36 .busy) ∧
        (s.sweep.read = none →
            (∀ slot, (s.bin (binAt rack slot)).latch ≠ .unlatched ∧
              (s.bin (binAt rack slot)).op.inProgress = false) →
          ∃ r : ReadPart, r = { rack := rack, asker := .branch, start := s.reading, startCount := s.now } ∧
            exec c s = State.answers { s with sweep := { s.sweep with read := some r } } .branch 0x36 .nothing)

/-- READ STRAYS and CLEAR STRAYS (R156, R198): part p carries entries 4 × p on, at most four, with the counts of parts
and entries and the INCOMPLETE flag, and a part that does not exist is RANGE; a count from 1 to 16 removes that many
of the oldest entries, ALL every one, and a list left empty clears INCOMPLETE; any other count is RANGE. -/
def Sys2Proof.Machine.straysReadAndCleared : Prop :=
  ∀ s : State, s.canTake .branch = true →
    (∀ part : Option (BitVec 8), ∃ p n, p = (part.map (fun b => b.toNat)).getD 0 ∧ n = s.strays.entries.length ∧
      (n ≤ 4 * p → p ≠ 0 → exec (.readStrays .branch part) s = s.turnsAway .branch 0x37 .range) ∧
      (4 * p < n ∨ p = 0 → exec (.readStrays .branch part) s = s.answers .branch 0x37
        (.strays p (max 1 ((n + 3) / 4)) n s.strays.incomplete ((s.strays.entries.drop (4 * p)).take 4)))) ∧
    (∀ c : BitVec 8, c.toNat = 0 ∨ 16 < c.toNat →
      exec (.clearStrays .branch (some c)) s = s.turnsAway .branch 0x38 .range) ∧
    (∀ (count : Option (BitVec 8)) (k : Nat),
      (count = none ∧ k = s.strays.entries.length) ∨ (∃ c, count = some c ∧ k = c.toNat ∧ 1 ≤ k ∧ k ≤ 16) →
      exec (.clearStrays .branch count) s = State.answers
        { s with strays :=
          { entries := s.strays.entries.drop k
            incomplete := if s.strays.entries.length ≤ k then false else s.strays.incomplete } }
        .branch 0x38 (.straysCleared (min k s.strays.entries.length) (s.strays.entries.length - k)))

/-- A pocket read that has run its 400 ms ends in the bin check of its bin (R137 to R141), which leaves every record as
R15 and R16 give, gives the bin's last places in the order of R138, withdraws a LISTED record made MISSING from the
manifest (R180), and writes the bin's last check; before that it is no event. That an early completion is no event is
log entry 16. -/
def Obligations.PocketReadChecksBin : Prop :=
  ∀ (i : BinIdx) (seen : List Tag) (s : State) (n : Nat), s.cabinetSound → (s.bin i).pocketReads.head? = some n →
    (s.now < n → exec (.pocketReadComplete i seen) s = .next s) ∧
    (n ≤ s.now → ∃ t : State, exec (.pocketReadComplete i seen) s = .next t ∧ binChecked s t i seen ∧
      (t.bin i).pocketReads = (s.bin i).pocketReads.tail)

/-- A rack read that has run its 2 s completes (R148, R149, R151, R210, R211): its sixteen checks are made in ascending
slot order with the pass number in force, each leaving what a bin check leaves (R154 included), the rack's age becomes 0
and its mark is cleared; then a step's read advances the pointer, an INVENTORY pass goes on to its next rack and after
rack 7 gives way to RUN, the step timer started and POWER gone from both lanes, and a RACK INVENTORY leaves the rest as
it was. That an early completion is no event is log entry 16. -/
def Obligations.RackReadCompletes : Prop :=
  ∀ (seen : List (List Tag)) (s : State) (r : ReadPart), s.sweep.read = some r →
    (s.now < r.startCount + 2000 → exec (.rackReadComplete seen) s = .next s) ∧
    (r.startCount + 2000 ≤ s.now → ∃ t u : State, exec (.rackReadComplete seen) s = .next t ∧
      u = (List.finRange 16).foldl (fun x slot => x.binCheck (binAt r.rack slot) (seen.getD slot.val [])) s ∧
      t.sweep.ages = s.sweep.ages.set r.rack 0 ∧ t.sweep.overdue = s.sweep.overdue.set r.rack false ∧
      (∀ (k : Fin 16) (v : State),
        v = ((List.finRange 16).take k.val).foldl
          (fun x slot => x.binCheck (binAt r.rack slot) (seen.getD slot.val [])) s → v.cabinetSound →
        binChecked v (v.binCheck (binAt r.rack k) (seen.getD k.val [])) (binAt r.rack k) (seen.getD k.val [])) ∧
      (∀ i, (t.bin i).lastCheck = (u.bin i).lastCheck) ∧ t.strays = u.strays ∧ t.levels = s.levels ∧
      (r.asker = .branch → t = { u with sweep := { u.sweep with
        ages := s.sweep.ages.set r.rack 0, overdue := s.sweep.overdue.set r.rack false, read := none } }) ∧
      (r.asker = .step → t.register = u.register ∧ t.bins = u.bins ∧
        (s.sweep.pendingStep = false → s.inInventory = false →
          t.sweep.pointer = s.sweep.pointer + 1 ∧ t.sweep.step = .timing ∧ t.sweep.read = none ∧
          t.sweep.pass = if s.sweep.pointer = 7 then s.sweep.pass + 1 else s.sweep.pass)) ∧
      (r.asker = .inventory → s.power.state = .mains (.inventory r.rack true) →
        t.sweep.pointer = s.sweep.pointer ∧ t.sweep.pass = s.sweep.pass ∧
        (r.rack ≠ 7 → s.selection = none →
          t.power.state = .mains (.inventory (r.rack + 1) true) ∧ t.register = u.register ∧ t.sweep.read =
            some { rack := r.rack + 1, asker := .inventory, start := s.reading, startCount := s.now }) ∧
        (r.rack ≠ 7 → s.selection.isSome = true →
          t.power.state = .mains (.inventory (r.rack + 1) false) ∧ t.register = u.register ∧ t.sweep.read = none) ∧
        (r.rack = 7 → t.power.state = .mains .run ∧ t.sweep.read = none ∧
          t.sweep.stepTimer = (if s.clock.isSet then some (s.now + s.config.verificationInterval * 7500)
            else s.sweep.stepTimer) ∧
          ∀ x, (t.lane x).reasons = { (s.lane x).reasons with power := false })))

/-- An expiry of the step timer (R145, R146): the timer restarts with the interval in force; in TIMING a step falls due
on the pointer's rack and is skipped when that rack is selected, given its read when the bus is free, and left WAITING
otherwise; in WAITING or READING a pending step is made present. Before its moment there is no such event. -/
def Sys2Proof.Machine.stepTimerExpires : Prop :=
  ∀ (s : State) (n : Nat), s.sweep.stepTimer = some n →
    (s.now < n → exec .stepTimerExpiry s = .next s) ∧
    (n ≤ s.now → ∃ w : Sweep, exec .stepTimerExpiry s = .next { s with sweep := w } ∧
      w = { s.sweep with
        pointer := w.pointer, pass := w.pass, step := w.step, pendingStep := w.pendingStep, read := w.read
        stepTimer := some (s.now + s.config.verificationInterval * (if s.onMains then 7500 else 30000)) } ∧
      (s.sweep.step ≠ .timing → w.pendingStep = true ∧ w.pointer = s.sweep.pointer ∧ w.pass = s.sweep.pass ∧
        w.step = s.sweep.step ∧ w.read = s.sweep.read) ∧
      (s.sweep.step = .timing → w.pendingStep = s.sweep.pendingStep ∧
        (s.selectedRack = some s.sweep.pointer →
          w.pointer = s.sweep.pointer + 1 ∧ w.step = .timing ∧ w.read = s.sweep.read ∧
          w.pass = if s.sweep.pointer = 7 then s.sweep.pass + 1 else s.sweep.pass) ∧
        (s.selectedRack ≠ some s.sweep.pointer → w.pointer = s.sweep.pointer ∧ w.pass = s.sweep.pass ∧
          (s.grant = .nothing → w.step = .reading ∧ w.read = some
            { rack := s.sweep.pointer, asker := .step, start := s.reading, startCount := s.now }) ∧
          (s.grant ≠ .nothing → w.step = .waiting ∧ w.read = s.sweep.read))))

/-- A rack becomes overdue (R152) when its age is above the threshold in force, V minutes on MAINS and 4 × V otherwise,
with its mark clear and outside RETENTION: the mark is set and RACK OVERDUE raised on the security link. Otherwise
there is no such event. -/
def Sys2Proof.Machine.rackBecomesOverdue : Prop :=
  ∀ (rack : RackIdx) (s : State), ∃ threshold : Nat,
    threshold = s.config.verificationInterval * (if s.onMains then 60000 else 240000) ∧
    (s.inRetention = true ∨ s.sweep.overdue.get rack = true ∨ s.sweep.ages.get rack ≤ threshold →
      exec (.rackOverdue rack) s = .next s) ∧
    (s.inRetention = false → s.sweep.overdue.get rack = false → threshold < s.sweep.ages.get rack →
      exec (.rackOverdue rack) s = .next { s with
        sweep := { s.sweep with overdue := s.sweep.overdue.set rack true }
        security := { s.security with notices := s.security.notices ||| 0x08 } })

/-- RACK INVENTORY, READ STRAYS and CLEAR STRAYS (R150, R156). A count of 0 is the model's reading (log entry 22). -/
def Obligations.RackInventoryAndStrays : Prop := rackInventoryBeginsRead ∧ straysReadAndCleared

/-- The step timer and the overdue test (R145, R146, R152). The expiry that is not due is the model's reading (log
entry 16). -/
def Obligations.SweepTimers : Prop := stepTimerExpires ∧ rackBecomesOverdue

/-! ### Records (chapters 1 and 9) -/

/-- The record reads (R47, R158, R166, R167, R198): a record named by tag or receipt is reported with its total and its
place in its bin; a bin with its contents and room; each lane's RESERVED record in its own part, with whether the lane
is closed with POWER. A key outside its form or range is RANGE, one that no live record holds UNKNOWN, a bin above 127
UNKNOWN, a part above 1 RANGE. Nothing changes. -/
def Obligations.RecordReadsReport : Prop :=
  ∀ s : State, s.canTake .branch = true →
    (∀ (key : RecordKey) (found : Option BagRecord),
      (∃ packed t, key = .tag packed ∧ tagOf packed = some t ∧ found = s.findTag t) ∨
        (∃ n, key = .receipt n ∧ 1 ≤ n.toNat ∧ n.toNat ≤ 999999 ∧ found = s.findReceipt n.toNat) →
      (found = none → exec (.readRecord .branch key) s = s.turnsAway .branch 0x40 .unknown) ∧
      (∀ r, found = some r → ∃ place, exec (.readRecord .branch key) s = s.answers .branch 0x40 (.record
          { record := r, total := r.decl.notes + r.decl.silver + r.decl.bronze, place := place } s.register.records.length) ∧
        (r.bin = none → place = none) ∧
        (∀ i, r.bin = some i → r.tag ∈ (s.bin i).contents →
          ∃ k, place = some k ∧ 1 ≤ k ∧ (s.bin i).contents[k - 1]? = some r.tag))) ∧
    (∀ packed, tagOf packed = none → exec (.readRecord .branch (.tag packed)) s = s.turnsAway .branch 0x40 .range) ∧
    (∀ n : BitVec 24, n.toNat = 0 ∨ 999999 < n.toNat →
      exec (.readRecord .branch (.receipt n)) s = s.turnsAway .branch 0x40 .range) ∧
    (∀ b : BitVec 8, 128 ≤ b.toNat → exec (.readBin .branch b) s = s.turnsAway .branch 0x41 .unknown) ∧
    (∀ (i : BinIdx) (b : BitVec 8), b.toNat = i.val → exec (.readBin .branch b) s = s.answers .branch 0x41 (.bin
      { index := i, rackClass := rackClass s.config.inspectRacks i, cls := (s.bin i).cls, latch := (s.bin i).latch,
        door := (s.bin i).door
        contents := (s.bin i).contents.filterMap (fun t => (s.findTag t).map (fun r =>
          { receipt := r.receipt, lane := if r.state = .reserved then some r.lane else none, state := r.state }))
        massSum := (s.bin i).massSum, overmass := decide (s.config.binMassLimit < (s.bin i).massSum),
        room := 4 - (s.bin i).contents.length, lastCheck := (s.bin i).lastCheck, alloc := s.alloc,
        massLimit := s.config.binMassLimit })) ∧
    (∀ (part : Option (BitVec 8)) (p : Nat), p = (part.map (fun b => b.toNat)).getD 0 →
      (2 ≤ p → exec (.readReservations .branch part) s = s.turnsAway .branch 0x42 .range) ∧
      (∀ x, (p = 0 ∧ x = .a) ∨ (p = 1 ∧ x = .b) →
        ∃ found, exec (.readReservations .branch part) s = s.answers .branch 0x42
            (.reservation p 2 x found s.register.records.length) ∧
          found.map (fun f => (f.1.record, f.2)) = (s.reservedOf x).map (fun r =>
            (r, (s.lane x).isClosed && (s.lane x).reasons.power))))

/-- TAKE BAG (R159, R160, R20), tested in order: the tag RANGE or UNKNOWN; the level below INSPECT LEVEL; a RESERVED,
IN_FLIGHT, TAKEN, COUNTED or RELEASED record, or a HELD one in a bin that is neither UNLATCHED nor UNSECURED, STATE.
Taken, the record becomes TAKEN with no bin and no seen-at bin, leaves its bin's contents and mass sum, and a LISTED
one leaves the manifest, counted as withdrawn; the reply tells what it held. -/
def Sys2Proof.Machine.takeBagTakes : Prop :=
  ∀ (packed : BitVec 40) (s : State) (c : Instr), s.canTake .branch = true → c = .takeBag .branch packed →
    (tagOf packed = none → exec c s = s.turnsAway .branch 0x46 .range) ∧
    ∀ tag, tagOf packed = some tag →
      (s.findTag tag = none → exec c s = s.turnsAway .branch 0x46 .unknown) ∧
      ∀ r, s.findTag tag = some r →
        (s.levels.effective = .sealed ∨ s.levels.effective = .courier →
          exec c s = s.turnsAway .branch 0x46 .level) ∧
        (s.levels.effective = .inspect ∨ s.levels.effective = .opened →
          (r.state = .reserved ∨ r.state = .inFlight ∨ r.state = .taken ∨ r.state = .counted ∨ r.state = .released ∨
              (r.state = .held ∧ ∀ i, r.bin = some i → (s.bin i).latch = .latched ∨ (s.bin i).latch = .fault) →
            exec c s = s.turnsAway .branch 0x46 .state) ∧
          (r.state = .missing ∨ r.state = .astray ∨ r.state = .listed ∨ (r.state = .held ∧
              ∃ i, r.bin = some i ∧ ((s.bin i).latch = .unlatched ∨ (s.bin i).latch = .unsecured)) →
            ∃ t : State, exec c s = t.answers .branch 0x46 (.taken
                { receipt := r.receipt, depositor := r.depositor,
                  total := r.decl.notes + r.decl.silver + r.decl.bronze, decl := r.decl, mass := r.mass,
                  decision := r.decision, holdClass := r.holdClass, flags := r.flags, stateLeft := r.state,
                  binLeft := r.bin }) ∧
              t = { s with register := t.register, bins := t.bins, manifest := t.manifest } ∧
              t.register = { s.register with records := s.register.records.map (fun x =>
                if x.tag = tag then { x with state := .taken, bin := none, seenAt := none } else x) } ∧
              (∀ i, t.bin i = if r.bin = some i then
                  { s.bin i with contents := (s.bin i).contents.erase tag, massSum := (s.bin i).massSum - r.mass }
                else s.bin i) ∧
              (r.state ≠ .listed → t.manifest = s.manifest) ∧
              (∀ n, r.state = .listed → r.receipt = some n →
                t.manifest.entries = s.manifest.entries.erase n ∧
                t.manifest.withdrawn = min 65535 (s.manifest.withdrawn + 1) ∧
                t.manifest.state = (if s.manifest.state = .sealed ∧ s.manifest.entries.erase n = [] then .building
                  else s.manifest.state))))

/-- PUT BACK (R162, R163, R21), tested in order: the tag RANGE or UNKNOWN; no bin UNKNOWN; a record that is not TAKEN
STATE; a bin not UNLATCHED STATE, or not in the rack of the branch's selection STATE; an engage in progress BUSY; no
room FULL. Taken, the record becomes HELD in the bin, appended to its contents with its mass added, its seen-at bin
removed and its last seen and flags kept. -/
def Sys2Proof.Machine.putBackReturns : Prop :=
  ∀ (packed : BitVec 40) (b : BitVec 8) (s : State) (c : Instr), s.canTake .branch = true →
    c = .putBack .branch packed b →
    (tagOf packed = none → exec c s = s.turnsAway .branch 0x47 .range) ∧
    ∀ tag, tagOf packed = some tag →
      (s.findTag tag = none → exec c s = s.turnsAway .branch 0x47 .unknown) ∧
      ∀ r, s.findTag tag = some r →
        (128 ≤ b.toNat → exec c s = s.turnsAway .branch 0x47 .unknown) ∧
        ∀ i : BinIdx, b.toNat = i.val →
          (r.state ≠ .taken ∨ (s.bin i).latch ≠ .unlatched ∨
              (∀ x, s.selection = some x → x.owner = .courier ∨ x.rack ≠ rackOf i) →
            exec c s = s.turnsAway .branch 0x47 .state) ∧
          ∀ x, r.state = .taken → (s.bin i).latch = .unlatched → s.selection = some x → x.owner = .branch →
            x.rack = rackOf i →
            ((s.bin i).op.isEngaging = true → exec c s = s.turnsAway .branch 0x47 .busy) ∧
            ((s.bin i).op.isEngaging = false → 4 ≤ (s.bin i).contents.length →
              exec c s = s.turnsAway .branch 0x47 .full) ∧
            ((s.bin i).op.isEngaging = false → (s.bin i).contents.length < 4 →
              ∃ t : State, exec c s = t.answers .branch 0x47 (.putBack r.receipt i
                  (3 - (s.bin i).contents.length) ((s.bin i).massSum + r.mass)
                  (decide (s.config.binMassLimit < (s.bin i).massSum + r.mass))) ∧
                t = { s with register := t.register, bins := t.bins } ∧
                t.register = { s.register with records := s.register.records.map (fun y =>
                  if y.tag = tag then { y with state := .held, bin := some i, seenAt := none } else y) } ∧
                t.bins = s.bins.set i { s.bin i with
                  contents := (s.bin i).contents ++ [r.tag], massSum := (s.bin i).massSum + r.mass })

/-- POST RESULT (R164, R22, R101): a value above £99,999.99 RANGE; the receipt RANGE or UNKNOWN; a record neither
TAKEN nor RELEASED without a result STATE. Taken, the value is written, a TAKEN record becomes COUNTED, and the
depositor's trust goes up by one, at most to 3, when the value differs from the declared total by no more than the
count tolerance, and otherwise down by one, at least to 0; no other trust changes. -/
def Sys2Proof.Machine.postResultMovesTrust : Prop :=
  ∀ (n : BitVec 24) (v : BitVec 32) (s : State) (c : Instr), s.canTake .branch = true → c = .postResult .branch n v →
    (9999999 < v.toNat ∨ n.toNat = 0 ∨ 999999 < n.toNat → exec c s = s.turnsAway .branch 0x48 .range) ∧
    (v.toNat ≤ 9999999 → 1 ≤ n.toNat → n.toNat ≤ 999999 →
      (s.findReceipt n.toNat = none → exec c s = s.turnsAway .branch 0x48 .unknown) ∧
      ∀ r, s.findReceipt n.toNat = some r →
        (r.state ≠ .taken → (r.state ≠ .released ∨ r.result.isSome = true) →
          exec c s = s.turnsAway .branch 0x48 .state) ∧
        (r.state = .taken ∨ (r.state = .released ∧ r.result = none) →
          ∃ (t : State) (total : Nat) (p : PostedReport), total = r.decl.notes + r.decl.silver + r.decl.bronze ∧
            exec c s = t.answers .branch 0x48 (.posted p) ∧
            t = { s with register := t.register, depositors := t.depositors } ∧
            t.register = { s.register with records := s.register.records.map (fun x => if x.tag = r.tag then
              { x with result := some v.toNat, state := if x.state = .taken then .counted else x.state } else x) } ∧
            (∀ j, j ≠ r.depositor → t.dep j = s.dep j) ∧
            (s.dep r.depositor = none → t.dep r.depositor = none) ∧
            (∀ d, s.dep r.depositor = some d → ∃ u : Nat,
              u = (if total ≤ v.toNat + s.config.countTolerance ∧ v.toNat ≤ total + s.config.countTolerance
                then min 3 (d.trust + 1) else max 0 (d.trust - 1)) ∧
              t.dep r.depositor = some { d with trust := u } ∧
              p = { total := total, counted := v.toNat,
                    difference := if total ≤ v.toNat then v.toNat - total else total - v.toNat,
                    within := decide (total ≤ v.toNat + s.config.countTolerance ∧
                      v.toNat ≤ total + s.config.countTolerance),
                    depositor := r.depositor, trustBefore := d.trust, trustAfter := u })))

/-- RETIRE (R165, R23, R100): the receipt RANGE or UNKNOWN; a record neither COUNTED nor RELEASED STATE. Taken, its
entry becomes VACANT, so that its receipt number and tag serial belong to no live record, and its depositor's live
count goes down by one; the trust does not change. -/
def Sys2Proof.Machine.retireFreesRecord : Prop :=
  ∀ (n : BitVec 24) (s : State) (c : Instr), s.canTake .branch = true → c = .retire .branch n →
    (n.toNat = 0 ∨ 999999 < n.toNat → exec c s = s.turnsAway .branch 0x49 .range) ∧
    (1 ≤ n.toNat → n.toNat ≤ 999999 →
      (s.findReceipt n.toNat = none → exec c s = s.turnsAway .branch 0x49 .unknown) ∧
      ∀ r, s.findReceipt n.toNat = some r →
        (r.state ≠ .counted → r.state ≠ .released → exec c s = s.turnsAway .branch 0x49 .state) ∧
        (r.state = .counted ∨ r.state = .released →
          ∃ t : State, exec c s = t.answers .branch 0x49 (.retired t.register.records.length
              (((s.dep r.depositor).map (fun d => d.liveCount - 1)).getD 0)) ∧
            t = { s with register := t.register, depositors := t.depositors } ∧
            t.register = { s.register with records := s.register.records.filter (fun x => x.tag != r.tag) } ∧
            t.findTag r.tag = none ∧
            (s.register.sound → s.register.fieldsSound →
              t.findReceipt n.toNat = none ∧ t.register.records.length + 1 = s.register.records.length) ∧
            ∀ j, t.dep j = if j = r.depositor then (s.dep j).map (fun d => { d with liveCount := d.liveCount - 1 })
              else s.dep j))

/-- LIST, LIST NEXT and STOP LIST (R169, R172, R173): with a cursor OPEN a LIST is BUSY, a start outside 1 to 999,999 or
a filter with RESERVED, with no state, or with a bit that is no state or flag (log entry 12) RANGE; with none OPEN, LIST
NEXT and STOP LIST are refused STATE. LIST and LIST NEXT send a burst; STOP LIST closes the cursor. -/
def Sys2Proof.Machine.listingsBurst : Prop :=
  ∀ s : State, s.canTake .branch = true → 1 ≤ s.config.burstLength → s.register.fieldsSound →
    (∀ start f, s.branch.cursor.isSome = true →
      exec (.list .branch start f) s = s.turnsAway .branch 0x43 .busy) ∧
    (∀ (start : BitVec 24) f, s.branch.cursor = none →
      start.toNat = 0 ∨ 999999 < start.toNat ∨ f.states = 0 ∨ f.states.getLsbD 0 = true ∨
          512 ≤ f.states.toNat ∨ f.flags.any (fun set => decide (8 ≤ set.toNat)) = true →
      exec (.list .branch start f) s = s.turnsAway .branch 0x43 .range) ∧
    (∀ (start : BitVec 24) (f : ListFilter), s.branch.cursor = none → 1 ≤ start.toNat → start.toNat ≤ 999999 →
      f.states ≠ 0 → f.states.getLsbD 0 = false → f.states.toNat < 512 →
      (∀ set, f.flags = some set → set.toNat < 8) →
      burstOf s { filter := f, order := s.config.listOrder, burst := s.config.burstLength, start := start.toNat,
                  next := start.toNat, idleEnd := s.now + 30000 } (exec (.list .branch start f) s) 0x43) ∧
    (s.branch.cursor = none → exec (.listNext .branch) s = s.turnsAway .branch 0x44 .state ∧
      exec (.stopList .branch) s = s.turnsAway .branch 0x45 .state) ∧
    (∀ c, s.branch.cursor = some c → 1 ≤ c.start → c.start ≤ 999999 → 1 ≤ c.next → c.next ≤ 999999 →
      1 ≤ c.burst →
      burstOf s c (exec (.listNext .branch) s) 0x44 ∧
      exec (.stopList .branch) s =
        State.answers { s with branch := { s.branch with cursor := none } } .branch 0x45 .nothing)

/-- The idle expiry of an OPEN cursor closes it without a notice (R173); before its moment there is no such event. -/
def Sys2Proof.Machine.idleListingCloses : Prop :=
  ∀ (s : State) (c : Cursor), s.branch.cursor = some c →
    (s.now < c.idleEnd → exec .listIdleExpiry s = .next s) ∧
    (c.idleEnd ≤ s.now → exec .listIdleExpiry s = .next { s with branch := { s.branch with cursor := none } })

/-- Every step keeps the register and the cabinet in agreement (R1, R4, R29): at most 512 records, no tag serial twice,
a bin in exactly the states that have one, each bin's contents its records, at most four, and its mass sum theirs. -/
def Obligations.StepKeepsCabinetSound : Prop :=
  ∀ s t : State, s.cabinetSound → step s = .next t → t.cabinetSound

/-- Every step keeps each record's optional fields present and absent as its state gives them (R3), its bin as R4 gives,
and its receipt number its own (R10): no step gives a tip a number that a live record holds. -/
def Obligations.StepKeepsReceiptsUnique : Prop :=
  ∀ s t : State, s.register.sound → s.register.fieldsSound → step s = .next t →
    t.register.sound ∧ t.register.fieldsSound

/-- A record is made only by a reservation (R6, R7, R39 to R42): in MAINS, with the clock set and the level below OPEN,
of a tag that no live record holds, in a LATCHED bin of its allocation class that is not in the selected rack, with
room and mass to spare, the first such bin in the scan from the class's cursor; the allocation class is its hold class,
or the other where a scan of the hold class finds no bin; it is RESERVED, without a receipt number, and takes its class's
serial. -/
def Obligations.RecordsComeFromReservations : Prop :=
  ∀ (c : Instr) (s t : State), exec c s = .next t → ∀ r ∈ t.register.records, s.findTag r.tag = none →
    r.state = .reserved ∧ r.receipt = none ∧ s.onMains = true ∧ s.clock.isSet = true ∧
      s.levels.effective ≠ .opened ∧ s.register.records.length < 512 ∧
      (∃ l x, c = .scaleSample l x ∧ r.lane = l) ∧
      ∃ i q, r.bin = some i ∧ r.reservation = some q ∧ (s.bin i).latch = .latched ∧
        s.selectedRack ≠ some (rackOf i) ∧ (s.bin i).contents.length < 4 ∧
        (s.bin i).massSum + r.mass ≤ s.config.binMassLimit ∧ (s.bin i).cls = binClassOf q.cls ∧
        rackClass s.config.inspectRacks i = q.cls ∧ q.serial = s.alloc.serial q.cls ∧
        q.saved = s.alloc.cursor q.cls ∧ t.alloc = (s.alloc.setCursor q.cls i).advance q.cls ∧
        scanFinds s q.cls r.mass (some i) ∧ (q.cls ≠ r.holdClass → scanFinds s r.holdClass r.mass none)

/-- TAKE BAG and PUT BACK (R159 to R163). -/
def Obligations.TakeBagAndPutBack : Prop := takeBagTakes ∧ putBackReturns

/-- POST RESULT and RETIRE (R101, R164, R165). -/
def Obligations.PostResultAndRetire : Prop := postResultMovesTrust ∧ retireFreesRecord

/-- Listings (R168 to R173). Undefined filter bits and the expiry that is not due are the model's readings (log
entries 12 and 16). -/
def Obligations.Listings : Prop := listingsBurst ∧ idleListingCloses

/-! ### The manifest and the courier's collection (chapter 10) -/

/-- OPEN MANIFEST (R175): RANGE for a number that is not twelve decimal digits; STATE in BUILDING, SEALED or ACTIVE; in
EMPTY or CLOSED the courier card becomes the number carried, the entries are empty, the counts 0, the collection start
and end removed and the state BUILDING. That RANGE is tested before STATE is the model's choice (log entry 52). SEAL
(R178): taken in BUILDING with at least one entry, else STATE; the state becomes SEALED and the reply carries the number
of entries. -/
def Obligations.OpenAndSealManifest : Prop :=
  ∀ s : State, s.canTake .branch = true →
    (∀ packed, cardOf packed = none → exec (.openManifest .branch packed) s = s.turnsAway .branch 0x50 .range) ∧
    (∀ packed card, cardOf packed = some card →
      (s.manifest.state = .building ∨ s.manifest.state = .sealed ∨ s.manifest.state = .active →
        exec (.openManifest .branch packed) s = s.turnsAway .branch 0x50 .state) ∧
      (s.manifest.state = .empty ∨ s.manifest.state = .closed →
        exec (.openManifest .branch packed) s = State.answers { s with manifest :=
          { state := .building, card := some card, entries := [], released := 0, withdrawn := 0, returned := 0,
            start := none, finish := none } } .branch 0x50 .nothing)) ∧
    (s.manifest.state ≠ .building ∨ s.manifest.entries = [] →
      exec (.sealManifest .branch) s = s.turnsAway .branch 0x53 .state) ∧
    (s.manifest.state = .building → s.manifest.entries ≠ [] →
      exec (.sealManifest .branch) s = State.answers { s with manifest := { s.manifest with state := .sealed } } .branch 0x53
        (.entries s.manifest.entries.length))

/-- ADD (R176), tested in order: the receipt RANGE; a manifest neither BUILDING nor SEALED STATE; no such record
UNKNOWN; a LISTED one DUPLICATE; any state but HELD STATE; 64 entries FULL. Taken, the HELD record becomes LISTED, with
everything else kept, and its receipt joins the end of the entries. -/
def Sys2Proof.Machine.addLists : Prop :=
  ∀ (n : BitVec 24) (s : State) (c : Instr), s.canTake .branch = true → c = .add .branch n →
    (n.toNat = 0 ∨ 999999 < n.toNat → exec c s = s.turnsAway .branch 0x51 .range) ∧
    (1 ≤ n.toNat → n.toNat ≤ 999999 →
      (s.manifest.state ≠ .building → s.manifest.state ≠ .sealed → exec c s = s.turnsAway .branch 0x51 .state) ∧
      (s.manifest.state = .building ∨ s.manifest.state = .sealed →
        (s.findReceipt n.toNat = none → exec c s = s.turnsAway .branch 0x51 .unknown) ∧
        ∀ r, s.findReceipt n.toNat = some r →
          (r.state = .listed → exec c s = s.turnsAway .branch 0x51 .duplicate) ∧
          (r.state ≠ .listed → r.state ≠ .held → exec c s = s.turnsAway .branch 0x51 .state) ∧
          (r.state = .held → 64 ≤ s.manifest.entries.length → exec c s = s.turnsAway .branch 0x51 .full) ∧
          (r.state = .held → s.manifest.entries.length < 64 →
            ∃ records, records =
                s.register.records.map (fun x => if x.tag = r.tag then { x with state := .listed } else x) ∧
              exec c s = State.answers { s with
                register := { s.register with records := records }
                manifest := { s.manifest with entries := s.manifest.entries ++ [n.toNat] } } .branch 0x51
                  (.entries (s.manifest.entries.length + 1)))))

/-- REMOVE of a manifest entry (R177, R178), tested in order: the receipt RANGE; a manifest neither BUILDING nor SEALED
STATE; no such record UNKNOWN; one that is not LISTED NOT LISTED. Taken, the record becomes HELD, its entry leaves, and
a SEALED manifest left empty goes back to BUILDING. CANCEL (R179): STATE in ACTIVE; otherwise every listed record
becomes HELD again and the manifest is EMPTY, the reply carrying the number of entries. -/
def Sys2Proof.Machine.removeAndCancelDelist : Prop :=
  ∀ s : State, s.canTake .branch = true →
    (∀ n : BitVec 24, n.toNat = 0 ∨ 999999 < n.toNat →
      exec (.removeManifestEntry .branch n) s = s.turnsAway .branch 0x52 .range) ∧
    (∀ (n : BitVec 24) (c : Instr), c = .removeManifestEntry .branch n → 1 ≤ n.toNat → n.toNat ≤ 999999 →
      (s.manifest.state ≠ .building → s.manifest.state ≠ .sealed → exec c s = s.turnsAway .branch 0x52 .state) ∧
      (s.manifest.state = .building ∨ s.manifest.state = .sealed →
        (s.findReceipt n.toNat = none → exec c s = s.turnsAway .branch 0x52 .unknown) ∧
        ∀ r, s.findReceipt n.toNat = some r →
          (r.state ≠ .listed → exec c s = s.turnsAway .branch 0x52 .notListed) ∧
          (r.state = .listed → ∃ left records, left = s.manifest.entries.erase n.toNat ∧
            records = s.register.records.map (fun x => if x.tag = r.tag then { x with state := .held } else x) ∧
            exec c s = State.answers { s with
              register := { s.register with records := records }
              manifest := { s.manifest with
                entries := left
                state := if s.manifest.state = .sealed ∧ left = [] then .building else s.manifest.state } }
              .branch 0x52 (.entries left.length)))) ∧
    (s.manifest.state = .active → exec (.cancel .branch) s = s.turnsAway .branch 0x54 .state) ∧
    (s.manifest.state ≠ .active → ∃ t : State,
      exec (.cancel .branch) s = t.answers .branch 0x54 (.entries s.manifest.entries.length) ∧
      t = { s with
        register := { s.register with records := t.register.records }
        manifest := { state := .empty, card := none, entries := [], released := 0, withdrawn := 0, returned := 0,
                      start := none, finish := none } } ∧
      t.register.records = s.register.records.map (fun r =>
        if r.state = .listed ∧ (∃ n ∈ s.manifest.entries, r.receipt = some n) then { r with state := .held } else r))

/-- LOGIN (R182), tested in order: a number that is not twelve decimal digits RANGE; a manifest that is not SEALED
STATE; another card UNKNOWN. Taken, the manifest becomes ACTIVE with the collection start, the courier request COURIER,
and the target is recomputed; the reply carries the entries, the effective level and the raise state. -/
def Sys2Proof.Machine.loginActivates : Prop :=
  ∀ (packed : BitVec 48) (s : State) (c : Instr), s.canTake .courier = true → c = .login .courier packed →
    (cardOf packed = none → exec c s = s.turnsAway .courier 0x57 .range) ∧
    ∀ card, cardOf packed = some card →
      (s.manifest.state ≠ .sealed → exec c s = s.turnsAway .courier 0x57 .state) ∧
      (s.manifest.state = .sealed → s.manifest.card ≠ some card → exec c s = s.turnsAway .courier 0x57 .unknown) ∧
      (s.manifest.state = .sealed → s.manifest.card = some card → ∃ t : State,
        exec c s = t.answers .courier 0x57
          (.loggedIn s.manifest.entries.length t.levels.effective t.levels.raiseState) ∧
        t.manifest = { s.manifest with state := .active, start := some s.reading } ∧ t.loggedIn = true ∧
        t.levels = { s.levels with
          courierRequest := .courier
          target := leastLevel s.levels.ceiling (leastLevel s.levels.allowance (mostLevel s.levels.branchRequest .courier))
          effective := leastLevel t.levels.target s.levels.effective
          raise := t.levels.raise } ∧
        (s.levels.sound →
          t = { s with manifest := t.manifest, levels := t.levels, branch := t.branch, courier := t.courier }))

/-- SCAN (R184, R185, R19): STATE before LOGIN; the tag RANGE or UNKNOWN. A LISTED record becomes RELEASED, leaves its
bin and the list, and the released count goes up; a HELD one is refused NOT LISTED, gets OUT-OF-MANIFEST-SCAN in its
flags and raises COURIER SCAN on the branch link; a record in any other state is refused STATE. -/
def Sys2Proof.Machine.scanReleases : Prop :=
  ∀ (packed : BitVec 40) (s : State) (c : Instr), s.canTake .courier = true → c = .scan .courier packed →
    (s.loggedIn = false → exec c s = s.turnsAway .courier 0x58 .state) ∧
    (s.loggedIn = true →
      (tagOf packed = none → exec c s = s.turnsAway .courier 0x58 .range) ∧
      ∀ tag, tagOf packed = some tag →
        (s.findTag tag = none → exec c s = s.turnsAway .courier 0x58 .unknown) ∧
        ∀ r, s.findTag tag = some r →
          (r.state ≠ .held → r.state ≠ .listed → exec c s = s.turnsAway .courier 0x58 .state) ∧
          (r.state = .held → ∃ records branch,
            records = s.register.records.map (fun x =>
              if x.tag = tag then { x with flags := { x.flags with outOfManifestScan := true } } else x) ∧
            branch = { s.branch with notices := s.branch.notices ||| 0x20 } ∧
            exec c s = State.turnsAway
              { s with register := { s.register with records := records }, branch := branch } .courier 0x58 .notListed) ∧
          (∀ n, r.state = .listed → r.receipt = some n → ∃ t : State,
            exec c s = t.answers .courier 0x58
              (.scanned (some n) r.bin (s.manifest.entries.erase n).length (s.manifest.released + 1)) ∧
            t = { s with register := t.register, bins := t.bins, manifest := t.manifest } ∧
            t.register = { s.register with records := s.register.records.map (fun x =>
              if x.tag = tag then { x with state := .released, bin := none, seenAt := none } else x) } ∧
            (∀ i, t.bin i = if r.bin = some i then
                { s.bin i with contents := (s.bin i).contents.erase tag, massSum := (s.bin i).massSum - r.mass }
              else s.bin i) ∧
            t.manifest = { s.manifest with
              entries := s.manifest.entries.erase n, released := s.manifest.released + 1 }))

/-- The closing of an ACTIVE manifest (R187, R188, R189), by LOGOUT or CLOSE MANIFEST, refused STATE without a crew:
the crew's selection is released; each record still named becomes HELD again and is counted as returned; the manifest is
CLOSED with the collection end; the courier request becomes NONE and the target is recomputed. The reply carries the
counts, and after a LOGOUT the effective level. -/
def Obligations.ManifestClosing : Prop :=
  ∀ (l : Link) (s : State) (c : Instr), s.canTake l = true →
    (c = .logout l ∧ l = .courier) ∨ (c = .closeManifest l ∧ l = .branch) →
    (s.loggedIn = false → exec c s = s.turnsAway l (if l = .courier then 0x59 else 0x55) .state) ∧
    (s.loggedIn = true → ∃ t : State,
      (l = .courier → exec c s = t.answers l 0x59 (.loggedOut s.manifest.released s.manifest.withdrawn
        (s.manifest.returned + s.manifest.entries.length) t.levels.effective)) ∧
      (l = .branch → exec c s = t.answers l 0x55 (.counts s.manifest.released s.manifest.withdrawn
        (s.manifest.returned + s.manifest.entries.length))) ∧
      t.manifest = { s.manifest with
        state := .closed, entries := [], returned := s.manifest.returned + s.manifest.entries.length,
        finish := some s.reading } ∧
      t.levels = { s.levels with
        courierRequest := .nothing
        target := leastLevel s.levels.ceiling (leastLevel s.levels.allowance s.levels.branchRequest)
        effective := leastLevel t.levels.target s.levels.effective
        raise := t.levels.raise } ∧
      (∀ x, s.selection = some x → x.owner = .courier → x.phase = .active →
        (∀ y, t.selection = some y → y.phase = .releasing) ∧
        ∀ i, rackOf i = x.rack → (t.bin i).standsOpen = false) ∧
      (∀ q ∈ t.register.records, q.state = .listed → ∀ n ∈ s.manifest.entries, q.receipt ≠ some n) ∧
      (s.levels.effective ≠ .opened → t.register.records = s.register.records.map (fun r =>
        if r.state = .listed ∧ (∃ n ∈ s.manifest.entries, r.receipt = some n) then { r with state := .held } else r)))

/-- READ MANIFEST (R181, R198): on the courier port STATE without a crew; a part that does not exist RANGE; otherwise
the list as it stands, eight entries to a part, each with its tag, bin and latch, the card's digits and the seen-at bins
on the branch link alone. It changes nothing. -/
def Sys2Proof.Machine.readManifestReports : Prop :=
  ∀ (l : Link) (part : Option (BitVec 8)) (s : State) (p : Nat), l ≠ .security → s.canTake l = true →
    p = (part.map (fun b => b.toNat)).getD 0 →
    (l = .courier → s.loggedIn = false → exec (.readManifest l part) s = s.turnsAway l 0x56 .state) ∧
    ((l = .courier → s.loggedIn = true) →
      (p ≠ 0 → s.manifest.entries.length ≤ 8 * p → exec (.readManifest l part) s = s.turnsAway l 0x56 .range) ∧
      (p = 0 ∨ 8 * p < s.manifest.entries.length →
        exec (.readManifest l part) s = s.answers l 0x56 (.manifest
          { part := p, parts := max 1 ((s.manifest.entries.length + 7) / 8), state := s.manifest.state,
            card := if l = .branch then .digits s.manifest.card else .present s.manifest.card.isSome,
            released := s.manifest.released, withdrawn := s.manifest.withdrawn, returned := s.manifest.returned,
            start := s.manifest.start, finish := s.manifest.finish, count := s.manifest.entries.length,
            entries := ((s.manifest.entries.drop (8 * p)).take 8).filterMap (fun n => (s.findReceipt n).map (fun r =>
              { receipt := n, tag := r.tag, bin := r.bin, latch := r.bin.map (fun i => (s.bin i).latch),
                misrouteSuspect := r.flags.misrouteSuspect,
                seenAt := if l = .branch then r.seenAt else none })) })))

/-- Every step keeps the list and the LISTED records the same (R174, R178 to R180, R187): an entry for each LISTED
record and no other, none twice, at most 64, and none in EMPTY and CLOSED. -/
def Obligations.StepKeepsManifestSound : Prop :=
  ∀ s t : State, s.register.sound → s.register.fieldsSound → s.manifestSound → step s = .next t → t.manifestSound

/-! ### Depositors (chapter 5) -/

/-- ENROL (R91, R89), tested in order: the card or a carried part out of range RANGE; a card that an entry holds
DUPLICATE; no VACANT entry FULL. Taken, the VACANT entry of lowest index becomes ACTIVE with the card and the parts
carried, the defaults for the others, trust 1, no window and a live count of 0; the reply carries the index. -/
def Sys2Proof.Machine.enrolFillsLowest : Prop :=
  ∀ (packed : BitVec 48) (terms : DepositorTerms) (s : State) (c : Instr), s.canTake .branch = true →
    c = .enrol .branch packed terms →
    (cardOf packed = none ∨ (∃ v, terms.levels = some v ∧ (v.toNat = 0 ∨ 7 < v.toNat)) ∨
        (∃ v, terms.perBag = some v ∧ (v.toNat < 100 ∨ 3050000 < v.toNat)) ∨
        (∃ v, terms.drops = some v ∧ (v.toNat = 0 ∨ 15 < v.toNat)) →
      exec c s = s.turnsAway .branch 0x60 .range) ∧
    ∀ card, cardOf packed = some card → termsOk terms = true →
      ((∃ i, ∃ d ∈ s.dep i, d.card = card) → exec c s = s.turnsAway .branch 0x60 .duplicate) ∧
      ((∀ i, ∀ d ∈ s.dep i, d.card ≠ card) →
        ((∀ i, s.dep i ≠ none) → exec c s = s.turnsAway .branch 0x60 .full) ∧
        ∀ i : DepIdx, s.dep i = none → (∀ j, j < i → s.dep j ≠ none) →
          ∃ d : Depositor, exec c s =
              State.answers { s with depositors := s.depositors.set i (some d) } .branch 0x60 (.enrolled i) ∧
            d = { state := .active, card := card, levels := d.levels, perBag := d.perBag, dropLimit := d.dropLimit,
                  windowStart := none, windowCount := 0, trust := 1, liveCount := 0 } ∧ d.sound ∧
            (terms.levels = none → d.levels = { sealed := true, courier := false, inspect := false }) ∧
            (∀ v, terms.levels = some v →
              d.levels = { sealed := v.getLsbD 0, courier := v.getLsbD 1, inspect := v.getLsbD 2 }) ∧
            d.perBag = (terms.perBag.map (fun v => v.toNat)).getD 2000000 ∧
            d.dropLimit = (terms.drops.map (fun v => v.toNat)).getD 6)

/-- EDIT (R92): a VACANT entry UNKNOWN; a part out of range, or an EDIT that carries nothing (R195), RANGE; a card that
another entry holds DUPLICATE. Taken, the parts carried are written and a drop limit below the window count lowers the
count; state, window start, trust and live count are kept. -/
def Sys2Proof.Machine.editWritesParts : Prop :=
  ∀ (index : BitVec 8) (card : Option (BitVec 48)) (terms : DepositorTerms) (s : State) (c : Instr),
    s.canTake .branch = true → c = .edit .branch index card terms →
    (card = none → terms = { levels := none, perBag := none, drops := none } →
      exec c s = s.turnsAway .branch 0x61 .range) ∧
    (card.isSome = true ∨ terms ≠ { levels := none, perBag := none, drops := none } →
      (s.dep (depOf index) = none → exec c s = s.turnsAway .branch 0x61 .unknown) ∧
      ∀ d, s.dep (depOf index) = some d →
        (termsOk terms = false ∨ card.any (fun p => (cardOf p).isNone) = true →
          exec c s = s.turnsAway .branch 0x61 .range) ∧
        (termsOk terms = true →
          (∀ p n, card = some p → cardOf p = some n → (∃ j, j ≠ depOf index ∧ ∃ e ∈ s.dep j, e.card = n) →
            exec c s = s.turnsAway .branch 0x61 .duplicate) ∧
          ∀ n, (card = none ∧ n = d.card) ∨ ((∃ p, card = some p ∧ cardOf p = some n) ∧
              ∀ j, j ≠ depOf index → ∀ e ∈ s.dep j, e.card ≠ n) →
            ∃ e : Depositor, exec c s =
                State.answers { s with depositors := s.depositors.set (depOf index) (some e) } .branch 0x61 .nothing ∧
              e = { d with
                card := n, levels := e.levels
                perBag := (terms.perBag.map (fun v => v.toNat)).getD d.perBag
                dropLimit := (terms.drops.map (fun v => v.toNat)).getD d.dropLimit
                windowCount := min d.windowCount e.dropLimit } ∧
              (terms.levels = none → e.levels = d.levels) ∧
              (∀ v, terms.levels = some v →
                e.levels = { sealed := v.getLsbD 0, courier := v.getLsbD 1, inspect := v.getLsbD 2 })))

/-- SUSPEND, RESTORE and REMOVE of a depositor (R93, R94): a VACANT entry UNKNOWN; SUSPEND of an ACTIVE and RESTORE of
a SUSPENDED entry change the state alone, and are otherwise STATE; REMOVE of an entry with live records is STATE and
otherwise makes it VACANT. -/
def Sys2Proof.Machine.depositorStatesChange : Prop :=
  ∀ (index : BitVec 8) (s : State), s.canTake .branch = true →
    (s.dep (depOf index) = none →
      exec (.suspend .branch index) s = s.turnsAway .branch 0x62 .unknown ∧
      exec (.restoreDepositor .branch index) s = s.turnsAway .branch 0x63 .unknown ∧
      exec (.removeDepositor .branch index) s = s.turnsAway .branch 0x64 .unknown) ∧
    ∀ d, s.dep (depOf index) = some d →
      exec (.suspend .branch index) s = (if d.state = .active then
          State.answers (s.setDep (depOf index) (some { d with state := .suspended })) .branch 0x62 .nothing
        else s.turnsAway .branch 0x62 .state) ∧
      exec (.restoreDepositor .branch index) s = (if d.state = .suspended then
          State.answers (s.setDep (depOf index) (some { d with state := .active })) .branch 0x63 .nothing
        else s.turnsAway .branch 0x63 .state) ∧
      exec (.removeDepositor .branch index) s = (if 0 < d.liveCount then s.turnsAway .branch 0x64 .state
        else State.answers (s.setDep (depOf index) none) .branch 0x64 .nothing)

/-- READ DEPOSITOR (R95, R97): UNKNOWN for a VACANT index or a card that no entry holds; otherwise the entry with
whether its window is running, which it is from its start until the rate window's length has passed, and then the
minutes left, rounded up. It changes nothing. -/
def Sys2Proof.Machine.readDepositorReports : Prop :=
  ∀ (key : DepositorKey) (s : State) (c : Instr), s.canTake .branch = true → c = .readDepositor .branch key →
    ((∃ i, key = .index i ∧ s.dep (depOf i) = none) ∨
        (∃ p, key = .card p ∧ ∀ i, ∀ d ∈ s.dep i, some d.card ≠ cardOf p) →
      exec c s = s.turnsAway .branch 0x65 .unknown) ∧
    ∀ i d, s.cardsUnique → s.dep i = some d →
      (∃ b, key = .index b ∧ depOf b = i) ∨ (∃ p, key = .card p ∧ cardOf p = some d.card) →
      ∃ (running : Bool) (left : Option Nat), exec c s = s.answers .branch 0x65 (.depositor
          { index := i, entry := d, running := running, minutesLeft := left }) ∧
        (d.windowStart = none → running = false ∧ left = none) ∧
        ∀ w, d.windowStart = some w → ∃ passed : Int,
          passed = ((s.clock.day * 86400 + s.clock.second : Nat) : Int) - ((w.day * 86400 + w.second : Nat) : Int) ∧
          (running = true ↔ 0 ≤ passed ∧ passed < s.config.rateWindow * 60) ∧ (running = false → left = none) ∧
          (running = true → ∃ m, left = some m ∧
            60 * ((m : Int) - 1) < s.config.rateWindow * 60 - passed ∧ s.config.rateWindow * 60 - passed ≤ 60 * m)

/-- Every step keeps the Depositor Table in its ranges with no card number twice (R89, R91, R92, R97 to R101). -/
def Sys2Proof.Machine.stepKeepsDepositorsSound : Prop :=
  ∀ s t : State, s.depositorsSound → s.cardsUnique → step s = .next t → t.depositorsSound ∧ t.cardsUnique

/-- Every step keeps each entry's live count the number of live records that name it, so that no entry is removed while
a bag of its depositor is in custody (R94, R100). -/
def Sys2Proof.Machine.stepKeepsLiveCounts : Prop :=
  ∀ s t : State, s.register.sound → s.liveCountsSound → step s = .next t → t.liveCountsSound

/-- ADD, REMOVE and CANCEL (R176, R177, R179). -/
def Obligations.ManifestEdits : Prop := addLists ∧ removeAndCancelDelist

/-- LOGIN and SCAN (R182, R184, R185). -/
def Obligations.LoginAndScan : Prop := loginActivates ∧ scanReleases

/-- ENROL, EDIT, SUSPEND, RESTORE and REMOVE (R91 to R94). Undefined level bits, an EDIT that carries nothing and the
order of EDIT's refusals are the model's readings (log entries 12, 25 and 42). -/
def Obligations.EnrolEditAndStates : Prop := enrolFillsLowest ∧ editWritesParts ∧ depositorStatesChange

/-- Every step keeps the Depositor Table sound and its live counts true (R89, R100). -/
def Obligations.StepKeepsDepositorTable : Prop := stepKeepsDepositorsSound ∧ stepKeepsLiveCounts

/-- READ MANIFEST and READ DEPOSITOR (R95, R181). A card that is no number, the window judged by written moments, the
window of an entry with none open reported as not running, and the login tested before the part number are the model's
readings (log entries 23, 31, 51 and 53). -/
def Obligations.ManifestAndDepositorReads : Prop := readManifestReports ∧ readDepositorReports

/-! ### Configuration and clock (chapter 12) -/

/-- SET CONFIG (R204, R203): LEVEL unless the effective level is OPEN, and RANGE for one that carries no field (R195).
Taken, each field carried is written from its last occurrence, with its value where that is supported and else with its
default, as the table of R203 has them, and the others are kept; the reply lists the defaulted fields in ascending
order. A lower V makes racks overdue at once (R152), a change
of INSPECT racks reclassifies rack 6 and brings a cursor outside its range to the range's first bin (R38), and a change
of the week offset recomputes the allowance (R111). -/
def Sys2Proof.Machine.setConfigWrites : Prop :=
  ∀ (writes : List ConfigWrite) (s : State) (c : Instr), s.canTake .branch = true → c = .setConfig .branch writes →
    (writes = [] → exec c s = s.turnsAway .branch 0x70 .range) ∧
    (writes ≠ [] → s.levels.effective ≠ .opened → exec c s = s.turnsAway .branch 0x70 .level) ∧
    (writes ≠ [] → s.levels.effective = .opened → ∃ (t : State) (defaulted : List Nat),
      exec c s = t.answers .branch 0x70 (.configSet defaulted) ∧
      defaulted.Pairwise (fun a b => a < b) ∧
      (∀ w before after, writes = before ++ w :: after → (∀ x ∈ after, fieldNumber x ≠ fieldNumber w) →
        fieldTaken w t.config (fieldNumber w) (decide (fieldNumber w ∈ defaulted))) ∧
      (∀ k ∈ defaulted, ∃ w ∈ writes, fieldNumber w = k) ∧
      fieldsKept s.config t.config (fun k => ∃ w ∈ writes, fieldNumber w = k) ∧
      (t.config.verificationInterval ≠ s.config.verificationInterval → ∀ k : RackIdx,
        t.sweep.overdue.get k = (s.sweep.overdue.get k || (!s.inRetention &&
          decide (t.config.verificationInterval * (if s.onMains then 60000 else 240000) < s.sweep.ages.get k)))) ∧
      (∀ i : BinIdx, (t.bin i).cls =
        if t.config.inspectRacks ≠ s.config.inspectRacks ∧ i.val / 16 = 6 ∧ (s.bin i).cls ≠ .outOfService
        then (if t.config.inspectRacks = 2 then .inspect else .normal) else (s.bin i).cls) ∧
      (t.config.inspectRacks ≠ s.config.inspectRacks → t.config.weekOffset = s.config.weekOffset →
        ∃ edge : BinIdx, edge = (if t.config.inspectRacks = 2 then 96 else 112) ∧
          t.alloc.normalCursor = (if s.alloc.normalCursor < edge then s.alloc.normalCursor else 0) ∧
          t.alloc.inspectCursor = (if edge ≤ s.alloc.inspectCursor then s.alloc.inspectCursor else edge) ∧
          t.alloc.normalSerial = s.alloc.normalSerial ∧ t.alloc.inspectSerial = s.alloc.inspectSerial) ∧
      (t.config.weekOffset ≠ s.config.weekOffset → allowanceOf t t.levels.allowance) ∧
      (t.config.weekOffset = s.config.weekOffset → t = { s with
        config := t.config, sweep := t.sweep, bins := t.bins, alloc := t.alloc, security := t.security }))

/-- SET CLOCK (R206): a second above 86,399 RANGE; a clock that is set, below OPEN, LEVEL, tested after the range by the
model's choice (log entry 55). Taken, the reading becomes the values carried and the mark SET, while the counting by
which timers run stays; CLOCK leaves both lanes' sets; the allowance is recomputed; and a first setting outside the
INVENTORY pass starts the step timer. -/
def Sys2Proof.Machine.setClockMovesReading : Prop :=
  ∀ (day : BitVec 16) (second : BitVec 24) (s : State) (c : Instr), s.canTake .branch = true →
    c = .setClock .branch day second →
    (86399 < second.toNat → exec c s = s.turnsAway .branch 0x71 .range) ∧
    (second.toNat ≤ 86399 → s.clock.isSet = true → s.levels.effective ≠ .opened →
      exec c s = s.turnsAway .branch 0x71 .level) ∧
    (second.toNat ≤ 86399 → s.clock.isSet = false ∨ s.levels.effective = .opened → ∃ t : State,
      exec c s = t.answers .branch 0x71 (.clockSet { day := day.toNat, second := second.toNat }) ∧
      t.clock = { s.clock with day := day.toNat, second := second.toNat, isSet := true } ∧
      (∀ x, s.levels.effective ≠ .opened →
        (t.lane x).reasons = { (s.lane x).reasons with clock := false }) ∧
      (∀ x, (t.lane x).reasons.clock = false) ∧
      allowanceOf t t.levels.allowance ∧ t.config = s.config ∧
      t.sweep.stepTimer = (if s.clock.isSet = false ∧ s.inInventory = false then
          some (s.now + s.config.verificationInterval * (if s.onMains then 7500 else 30000))
        else s.sweep.stepTimer) ∧
      t.sweep.ages = s.sweep.ages ∧ t.sweep.pointer = s.sweep.pointer)

/-- SET CONFIG and SET CLOCK (R203 to R206, R38). A SET CONFIG that carries nothing, and the order of the refusals of
SET CLOCK, are the model's readings (log entries 25 and 55). -/
def Obligations.SettingsTaken : Prop := setConfigWrites ∧ setClockMovesReading

/-- Every step keeps the settings in their ranges: the configuration (R203, R204), the clock's reading (R205), the
windows (R110) and the strays list (R154); and each lane's state agrees with its close-reason set (R50, R51): IDLE only
with the set empty, SERVICE only with SERVICE in it, JAMMED only with JAMMED and without SERVICE, CLOSED with neither.
-/
def Obligations.StepKeepsSettingsSound : Prop :=
  ∀ s t : State, step s = .next t →
    (s.config.sound → t.config.sound) ∧ (s.clock.sound → t.clock.sound) ∧ (s.windowsSound → t.windowsSound) ∧
      (s.strays.sound → t.strays.sound) ∧ ((∀ x, (s.lane x).sound) → ∀ x, (t.lane x).sound)

/-! ### The lanes' own events (chapter 3) -/

/-- A card read (R58, R96, R97): in IDLE the tests are made in order against the entry that holds the card, and the
first that fails gives the refusal, shown for 3 s; the rate window is renewed when its test is reached. When every test
passes the lane goes to DECLARE with a fresh session. In any other state the read is not taken; a closed lane then shows
LANE CLOSED (R50), but not while it shows a receipt number (R66). -/
def Sys2Proof.Machine.cardReadTests : Prop :=
  ∀ (x : LaneId) (card : Card) (s : State), s.inRetention = false →
    ∃ refused : State → CardRefusal → State,
      refused = (fun u why => u.modLane x (fun y =>
        { y with state := .card, phaseTimer := some (s.now + 3000), display := .refusal why })) ∧
      ((s.lane x).state ≠ .idle → (s.lane x).isClosed = false → exec (.cardRead x card) s = .next s) ∧
      ((s.lane x).isClosed = true → (∀ k n, (s.lane x).display = .receiptNumber k n → n ≤ s.now) →
        exec (.cardRead x card) s = .next (s.modLane x (fun y => { y with display := .laneClosed }))) ∧
      (∀ k n, (s.lane x).isClosed = true → (s.lane x).display = .receiptNumber k n → s.now < n →
        exec (.cardRead x card) s = .next s) ∧
      ((s.lane x).state = .idle →
        ((∀ i, ∀ d ∈ s.dep i, d.card ≠ card) → exec (.cardRead x card) s = .next (refused s .unknownCard)) ∧
        ∀ i d, s.cardsUnique → s.dep i = some d → d.card = card →
          (d.state = .suspended → exec (.cardRead x card) s = .next (refused s .suspended)) ∧
          (d.state = .active → d.levels.has s.levels.effective = false →
            exec (.cardRead x card) s = .next (refused s .notNow)) ∧
          (d.state = .active → d.levels.has s.levels.effective = true →
            ∃ (e : Depositor) (u : State), u = s.setDep i (some e) ∧
              ((∃ w ∈ d.windowStart, w.seconds ≤ s.reading.seconds ∧
                  s.reading.seconds < w.seconds + s.config.rateWindow * 60) → e = d) ∧
              ((∀ w ∈ d.windowStart, s.reading.seconds < w.seconds ∨
                  w.seconds + s.config.rateWindow * 60 ≤ s.reading.seconds) →
                e = { d with windowStart := some s.reading, windowCount := 0 }) ∧
              (e.dropLimit ≤ e.windowCount → ∀ w, e.windowStart = some w →
                exec (.cardRead x card) s = .next (refused u
                  (.wait ((w.seconds + s.config.rateWindow * 60 - s.reading.seconds + 59) / 60)))) ∧
              (e.windowCount < e.dropLimit → 24 ≤ e.liveCount →
                exec (.cardRead x card) s = .next (refused u .tooManyBags)) ∧
              (e.windowCount < e.dropLimit → e.liveCount < 24 → 512 ≤ s.register.records.length →
                exec (.cardRead x card) s = .next ((refused u .safeFull).notify .branch .safeFull)) ∧
              (e.windowCount < e.dropLimit → e.liveCount < 24 → s.register.records.length < 512 →
                exec (.cardRead x card) s = .next (u.modLane x (fun y =>
                  { y with
                    state := .declare, display := .enterAmount .notes
                    session := some
                      { card := some card, depositor := i, stage := .notes, notes := none, silver := none,
                        bronze := none, keyed := [], refused := 0, keyTimer := some (s.now + 60000), tag := none,
                        capture := none, verdict := none, record := none } })))))

/-- Keys in DECLARE (R59, R60): each restarts the 60 s key timer; digits are taken up to seven, CLEAR empties them and
CANCEL ends the session; ENTER offers the amount, kept where it is in its range and of its step, and after the third the
whole declaration is tested: a total of 0 or above the per-bag limit, which is 0 for an entry that has become VACANT
(R96), is refused with its reason displayed, at the third time ending the session, and otherwise the lane enters LOAD
(R61). In any other state a key is not taken; a closed lane then shows LANE CLOSED (R50), but not while it shows a
receipt number (R66). -/
def Sys2Proof.Machine.keysDeclare : Prop :=
  ∀ (x : LaneId) (s : State),
    (∀ key, ((s.lane x).state ≠ .declare ∧ (s.lane x).isClosed = false) ∨ s.inRetention = true →
      exec (.keyPress x key) s = .next s) ∧
    (∀ key, s.inRetention = false → (s.lane x).isClosed = true →
      (∀ k n, (s.lane x).display = .receiptNumber k n → n ≤ s.now) →
      exec (.keyPress x key) s = .next (s.modLane x (fun y => { y with display := .laneClosed }))) ∧
    (∀ key k n, (s.lane x).isClosed = true → (s.lane x).display = .receiptNumber k n → s.now < n →
      exec (.keyPress x key) s = .next s) ∧
    ∀ y : Session, s.inRetention = false → (s.lane x).state = .declare → (s.lane x).session = some y →
      ∃ (z : Session) (put : Session → Display → State), z = { y with keyTimer := some (s.now + 60000) } ∧
        put = (fun q d => s.modLane x (fun w => { w with session := some q, display := d })) ∧
        (∀ d, exec (.keyPress x (.digit d)) s = .next
          (put (if y.keyed.length < 7 then { z with keyed := y.keyed ++ [d] } else z) (.enterAmount y.stage))) ∧
        exec (.keyPress x .clear) s = .next (put { z with keyed := [] } (.enterAmount y.stage)) ∧
        (∃ t : State, exec (.keyPress x .cancel) s = .next t ∧ reachesIdle s t x) ∧
        ∀ v, v = keyedNumber y.keyed →
          (y.stage = .notes → exec (.keyPress x .enter) s = .next
            (if v ≤ 2500000 ∧ v % 500 = 0
             then put { z with notes := some v, keyed := [], stage := .silver } (.enterAmount .silver)
             else put { z with keyed := [] } (.amountRefused .notes))) ∧
          (y.stage = .silver → exec (.keyPress x .enter) s = .next
            (if v ≤ 500000 ∧ v % 5 = 0
             then put { z with silver := some v, keyed := [], stage := .bronze } (.enterAmount .bronze)
             else put { z with keyed := [] } (.amountRefused .silver))) ∧
          (y.stage = .bronze → 50000 < v →
            exec (.keyPress x .enter) s = .next (put { z with keyed := [] } (.amountRefused .bronze))) ∧
          (∀ n m total limit : Nat, y.stage = .bronze → v ≤ 50000 → y.notes = some n → y.silver = some m →
            total = n + m + v → limit = ((s.dep y.depositor).map (fun d => d.perBag)).getD 0 →
            (total = 0 ∨ limit < total →
              (y.refused < 2 → exec (.keyPress x .enter) s = .next (put
                { z with stage := .notes, notes := none, silver := none, bronze := none, keyed := [],
                         refused := y.refused + 1 }
                (.declarationRefused (if total = 0 then .zeroTotal else .overLimit)))) ∧
              (2 ≤ y.refused → ∃ t : State, exec (.keyPress x .enter) s = .next t ∧ reachesIdle s t x ∧
                (t.lane x).display = .declarationRefused (if total = 0 then .zeroTotal else .overLimit))) ∧
            (total ≠ 0 → total ≤ limit → ∃ t : State, exec (.keyPress x .enter) s = .next t ∧
              t = { s with laneA := t.laneA, laneB := t.laneB } ∧ t.lane x.other = s.lane x.other ∧
              (t.lane x).state = .load ∧ (t.lane x).session = some { z with
                bronze := some v, keyed := [], stage := .complete, keyTimer := none } ∧
              (if (s.lane x).inputs.drawerLocked then
                (t.lane x).lockGoal = some { wantLocked := false, confirmBy := none } ∧
                  (t.lane x).lock.on = true ∧ (t.lane x).lock.pulseEnd = some (s.now + 200)
               else (t.lane x).phaseTimer = some (s.now + 30000) ∧ (t.lane x).display = .loadBag)))

/-- The timers of CARD and DECLARE (R58, R60): at the end of a refusal's 3 s, and of the 60 s without a key, the lane
reaches IDLE. Before that neither is an event. -/
def Sys2Proof.Machine.waitsEndAtIdle : Prop :=
  ∀ (x : LaneId) (s : State) (n : Nat),
    ((s.lane x).state = .card → (s.lane x).phaseTimer = some n →
      (s.now < n → exec (.cardRefusalExpiry x) s = .next s) ∧
      (n ≤ s.now → ∃ t : State, exec (.cardRefusalExpiry x) s = .next t ∧ reachesIdle s t x)) ∧
    (∀ y, s.inRetention = false → (s.lane x).state = .declare → (s.lane x).session = some y → y.keyTimer = some n →
      (s.now < n → exec (.keyTimerExpiry x) s = .next s) ∧
      (n ≤ s.now → ∃ t : State, exec (.keyTimerExpiry x) s = .next t ∧ reachesIdle s t x))

/-- Cards and keys at a lane (R58 to R60, R96, R97). Expiries that are not due, the window judged by written moments,
how long the reason of a third refusal is shown, and a closed lane's receipt number kept over LANE CLOSED are the
model's readings (log entries 16, 31, 37 and 56). -/
def Obligations.CardsAndKeys : Prop := cardReadTests ∧ keysDeclare ∧ waitsEndAtIdle

/-- A change of a filtered input (R55): a value already held, or a lane in RETENTION, is no event. A forcing of the
drawer (R69), in every state, adds FORCED, closes the lane at once as R52 gives, its RESERVED record rolled back (R43),
its waiting request withdrawn, the grant of a lane in TIP passed on and that of any other lane kept (R72), and raises
LANE FORCED. -/
def Sys2Proof.Machine.drawerForcings : Prop :=
  ∀ (x : LaneId) (k : LaneInput) (v : Bool) (s : State),
    (s.inRetention = true ∨ inputValue (s.lane x).inputs k = v → exec (.laneInputChange x k v) s = .next s) ∧
    (s.inRetention = false → inputValue (s.lane x).inputs k ≠ v →
      (k = .drawerForced ∧ v = true) ∨ (k = .drawerClosed ∧ v = false ∧ (s.lane x).inputs.drawerLocked = true) ∨
        (k = .drawerLocked ∧ v = true ∧ (s.lane x).inputs.drawerClosed = false) →
      ∃ t : State, exec (.laneInputChange x k v) s = .next t ∧
        (t.lane x).inputs = inputPut (s.lane x).inputs k v ∧
        (t.lane x).reasons = { (s.lane x).reasons with forced := true } ∧
        (t.lane x).state = closedState { (s.lane x).reasons with forced := true } ∧
        (t.lane x).session = none ∧ (t.lane x).phaseTimer = none ∧ (t.lane x).route = (s.lane x).route ∧
        (t.lane x).ret.on = false ∧ ((s.lane x).route = none → (t.lane x).tip.on = false) ∧
        ((s.lane x).route ≠ none → (t.lane x).tip = (s.lane x).tip) ∧
        (∀ r, s.reservedOf x = some r → t.findTag r.tag = none ∧ rolledBack s t r) ∧
        (s.reservedOf x = none → t.register = s.register ∧ t.alloc = s.alloc) ∧
        t.diverter.waiting x = false ∧ ((s.lane x).state = .tip → t.diverter.holder ≠ some x) ∧
        ((s.lane x).state = .tip → s.diverter.holder = some x → grantPasses s t x) ∧
        ((s.lane x).state ≠ .tip → t.diverter = s.diverter.setWaiting x false ∧ t.lane x.other = s.lane x.other) ∧
        t.security.notices &&& 0x01 ≠ 0)

/-- The drawer (R57, R61, R67, R68): a bag found in IDLE takes the lane to RETURN_WAIT without a reason, and a bag gone
in RETURN_WAIT brings it to IDLE; in IDLE, and in CLOSED without POWER, a drawer that comes to be closed and empty and
is not locked gets a lock pulse; in LOAD the change that makes drawer-closed and bag-present both set stops the timer
and begins the lock pulse, or, with the bolt already locked, the tag is read at once (R56; log entry 38); a bolt
confirmed in LOAD asks for the bag, whatever the inputs show (log entry 60), or for its tag, and in RETURN runs the
motor. -/
def Sys2Proof.Machine.drawerChanges : Prop :=
  ∀ (x : LaneId) (s : State), s.inRetention = false →
    ((s.lane x).state = .idle → (s.lane x).inputs.bagPresent = false →
      exec (.laneInputChange x .bagPresent true) s = .next (s.modLane x (fun y =>
        { y with inputs := { y.inputs with bagPresent := true }, state := .returnWait, returnReason := none,
                 phaseTimer := some (s.now + 60000), lockGoal := none, display := .takeBag }))) ∧
    ((s.lane x).state = .returnWait → (s.lane x).inputs.bagPresent = true → ∃ t : State,
      exec (.laneInputChange x .bagPresent false) s = .next t ∧
      reachesIdle (s.modLane x (fun y => { y with inputs := { y.inputs with bagPresent := false } })) t x) ∧
    (∀ k, (k = .bagPresent ∧ (s.lane x).inputs.bagPresent = false ∧ (s.lane x).inputs.drawerClosed = true) ∨
        (k = .drawerClosed ∧ (s.lane x).inputs.drawerClosed = false ∧ (s.lane x).inputs.bagPresent = true) →
      (s.lane x).state = .load → (s.lane x).phaseTimer ≠ none → (s.lane x).lockGoal = none →
      ((s.lane x).inputs.drawerLocked = false → exec (.laneInputChange x k true) s = .next (s.modLane x (fun y =>
        { y with
          inputs := { y.inputs with bagPresent := true, drawerClosed := true }, phaseTimer := none
          lock := { on := true, high := s.config.active.level x .lock, pulseEnd := some (s.now + 200) }
          lockGoal := some { wantLocked := true, confirmBy := none } }))) ∧
      ((s.lane x).inputs.drawerLocked = true → exec (.laneInputChange x k true) s = .next (s.modLane x (fun y =>
        { y with
          inputs := { y.inputs with bagPresent := true, drawerClosed := true }, phaseTimer := none
          tagReader := some .load, display := .processing })))) ∧
    (∀ k v, (k = .drawerClosed ∧ v = true) ∨ (k = .bagPresent ∧ v = false) →
      inputValue (s.lane x).inputs k ≠ v →
      (s.lane x).state = .idle ∨ ((s.lane x).state = .closed ∧ (s.lane x).reasons.power = false) →
      ∃ (t : State) (before : Lane), exec (.laneInputChange x k v) s = .next t ∧
        before = { s.lane x with inputs := inputPut (s.lane x).inputs k v } ∧ locksShut s before (t.lane x) x ∧
        (t.lane x).inputs = before.inputs ∧ (t.lane x).state = (s.lane x).state ∧
        t = { s with laneA := t.laneA, laneB := t.laneB } ∧ t.lane x.other = s.lane x.other) ∧
    (∀ g, (s.lane x).lockGoal = some g → (s.lane x).inputs.drawerLocked = !g.wantLocked →
      (g.wantLocked = true → (s.lane x).inputs.drawerClosed = true) →
      ∃ t : State, exec (.laneInputChange x .drawerLocked g.wantLocked) s = .next t ∧
        t = { s with laneA := t.laneA, laneB := t.laneB } ∧ t.lane x.other = s.lane x.other ∧
        (t.lane x).lockGoal = none ∧ (t.lane x).state = (s.lane x).state ∧
        ((s.lane x).state = .load → g.wantLocked = true →
          (t.lane x).tagReader = some .load ∧ (t.lane x).display = .processing) ∧
        ((s.lane x).state = .load → g.wantLocked = false →
          (t.lane x).phaseTimer = some (s.now + 30000) ∧ (t.lane x).display = .loadBag) ∧
        ((s.lane x).state = .ret → g.wantLocked = false →
          (t.lane x).ret = { on := true, high := s.config.active.level x .ret, pulseEnd := some (s.now + 1500) }))

/-- A lock pulse whose confirmation is late jams the lane (R57, R61, R67); the end of LOAD's 30 s sends a bag back with
TIMEOUT and without one ends the session (R61); a tag read in LOAD returns TAG or DUPLICATE, or is kept and the lane
weighs (R62), and at an opening check jams the lane for a live record's tag and returns any other bag (R53). Before
their moments the timers are no events. -/
def Sys2Proof.Machine.lockLoadAndTag : Prop :=
  ∀ (x : LaneId) (s : State),
    (∀ g n, (s.lane x).lockGoal = some g → g.confirmBy = some n →
      (s.now < n → exec (.lockConfirmTimeout x) s = .next s) ∧
      (n ≤ s.now → ∃ t : State, exec (.lockConfirmTimeout x) s = .next t ∧ jams s t x)) ∧
    (∀ n, (s.lane x).state = .load → (s.lane x).phaseTimer = some n →
      (s.now < n → exec (.loadTimeout x) s = .next s) ∧
      (n ≤ s.now → (s.lane x).inputs.bagPresent = false → ∃ t : State,
        exec (.loadTimeout x) s = .next t ∧ reachesIdle s t x) ∧
      (n ≤ s.now → (s.lane x).inputs.bagPresent = true →
        exec (.loadTimeout x) s = .next (s.modLane x (fun y =>
          { y with session := none, state := .returnWait, returnReason := some .timeout,
                   phaseTimer := some (s.now + 60000), lockGoal := none, display := .returning .timeout })))) ∧
    ((s.lane x).tagReader = some .load →
      (∃ t : State, exec (.tagRead x none) s = .next t ∧ returnsBag s t x .tag) ∧
      ∀ tag, (∀ r, s.findTag tag = some r → ∃ t : State,
          exec (.tagRead x (some tag)) s = .next t ∧ returnsBag s t x .duplicate) ∧
        (s.findTag tag = none → exec (.tagRead x (some tag)) s = .next (s.modLane x (fun y =>
          { y with session := y.session.map (fun q => { q with tag := some tag }), state := .weigh, samples := [],
                   phaseTimer := some (s.now + 3000), tagReader := none, display := .processing })))) ∧
    ((s.lane x).tagReader = some .openingCheck →
      (∀ result, (∀ tag, result = some tag → s.findTag tag = none) → ∃ t : State,
        exec (.tagRead x result) s = .next t ∧ returnsBag s t x .interrupted) ∧
      (∀ tag r, s.findTag tag = some r → ∃ t : State, exec (.tagRead x (some tag)) s = .next t ∧ jams s t x))

/-- The drawer of a lane and its tag reader (R53, R55, R57, R61, R62, R67 to R69). Expiries that are not due, lines
without a change, the wait for an opening check's tag, a lock pulse awaited during a session or when a bag appears, a
pulse begun while one runs, a drawer already locked when it is loaded or loaded before its bolt's release, the session's
end at the LOAD timeout and a RETURN_WAIT without a bag are the model's readings (log entries 8, 16, 17, 35, 38 to 40,
48, 49 and 60). -/
def Obligations.DrawerEvents : Prop := drawerForcings ∧ drawerChanges ∧ lockLoadAndTag

/-- Weighing (R63): outside WEIGH a sample is not taken; in WEIGH it is kept, and when the last three are numeric with
no two more than 2 dg apart, or all over-range, the CHECK is made with the last as capture, which the session keeps
(R50). Without a settled reading in 3 s the bag is returned UNSTABLE, a re-check's record rolled back first (R70). -/
def Sys2Proof.Machine.weighing : Prop :=
  ∀ (x : LaneId) (s : State),
    (∀ v, (s.lane x).state ≠ .weigh → exec (.scaleSample x v) s = .next s) ∧
    (∀ v, (s.lane x).state = .weigh → settled (v :: (s.lane x).samples) = none →
      exec (.scaleSample x v) s = .next (s.modLane x (fun y => { y with samples := (v :: y.samples).take 3 }))) ∧
    (∀ v y, (s.lane x).state = .weigh → (s.lane x).session = some y →
      ((∃ a b c rest, v = .mass a ∧ (s.lane x).samples = .mass b :: .mass c :: rest ∧
          a ≤ b + 2 ∧ b ≤ a + 2 ∧ a ≤ c + 2 ∧ c ≤ a + 2 ∧ b ≤ c + 2 ∧ c ≤ b + 2) ∨
        (v = .overRange ∧ ∃ rest, (s.lane x).samples = .overRange :: .overRange :: rest)) →
      ∃ u : State, u = s.modLane x (fun w =>
          { w with samples := (v :: w.samples).take 3, state := .check, phaseTimer := none,
                   session := some { y with capture := some v } }) ∧
        exec (.scaleSample x v) s = .next (u.check x v) ∧
        ∀ q, ((u.check x v).lane x).session = some q → q.capture = some v) ∧
    (∀ n, (s.lane x).state = .weigh → (s.lane x).phaseTimer = some n →
      (s.now < n → exec (.weighTimeout x) s = .next s) ∧
      (n ≤ s.now → ∃ t : State, exec (.weighTimeout x) s = .next t ∧
        (s.reservedOf x = none → returnsBag s t x .unstable) ∧
        (∀ r, s.reservedOf x = some r → returnsBag (s.rollback r) t x .unstable ∧ rolledBack s t r)))

/-- CHECK (R64, R70, R14, R85, R87), made by the settling sample. A new drop is tested: the entry ACTIVE with the
session's card, else CARD; its window count below the drop limit, else WAIT; its live count below 24, else LIMIT. It is
then counted and decided, and a kept bag gets a RESERVED record and asks for the diverter (R65, R71), which is commanded
to the record's bin where the grant is given at once, raising HELD DEPOSIT for HOLD, or goes back with the decision's or the reservation's reason. A restart re-check replaces its record's mass, band
and decision and asks for the diverter likewise, or rolls it back on RETURN. -/
def Sys2Proof.Machine.checkDecides : Prop :=
  ∀ (x : LaneId) (m : Reading) (s : State) (y : Session), (s.lane x).session = some y →
    (∀ d, y.record = none → s.dep y.depositor = some d →
      (d.state = .suspended ∨ y.card ≠ some d.card → returnsBag s (s.check x m) x .card) ∧
      (d.state = .active → y.card = some d.card →
        (d.dropLimit ≤ d.windowCount → returnsBag s (s.check x m) x .wait) ∧
        (d.windowCount < d.dropLimit → 24 ≤ d.liveCount → returnsBag s (s.check x m) x .limit) ∧
        (d.windowCount < d.dropLimit → d.liveCount < 24 → ∃ (t : State) (a : AcceptanceAnswer) (f : DropFacts),
          t = s.check x m ∧ a = acceptance s.config y.decl m d.trust ∧
          f = { lane := x, depositor := y.depositor, tag := y.tag.getD 0, decl := y.decl, mass := captureMass m,
                lo := a.lo, hi := a.hi, decision := a.verdict.decision, holdClass := a.verdict.decision.holdClass } ∧
          (t.dep y.depositor).map (fun e => e.windowCount) = some (d.windowCount + 1) ∧
          (∀ why, a.verdict = .ret why → (t.lane x).state = .ret ∧ (t.lane x).returnReason = some why ∧
            t.register = s.register) ∧
          ((∀ why, a.verdict ≠ .ret why) →
            (∀ why, s.reserve f = .error why → (t.lane x).state = .ret ∧ (t.lane x).returnReason = some why ∧
              t.register = s.register ∧ t.bins = s.bins) ∧
            (∀ made, s.reserve f = .ok made →
              t.register = made.register ∧ t.bins = made.bins ∧ t.alloc = made.alloc ∧ t.strays = made.strays ∧
              (t.dep y.depositor).map (fun e => e.liveCount) = some (d.liveCount + 1) ∧
              asksDiverter made t x ∧ made.diverter = s.diverter ∧ made.now = s.now ∧
              (s.diverter.holder = none → s.reservedOf x = none →
                ∃ r ∈ t.register.records, r.tag = f.tag ∧ r.state = .reserved ∧ t.diverter.target = r.bin) ∧
              (a.verdict = .hold → s.inRetention = false → t.branch.notices &&& 0x10 ≠ 0)))))) ∧
    (y.record = none → s.dep y.depositor = none → returnsBag s (s.check x m) x .card) ∧
    (∀ r d, y.record = some r.tag → s.findTag r.tag = some r → r.state = .reserved → s.dep r.depositor = some d →
      ∃ (t : State) (a : AcceptanceAnswer), t = s.check x m ∧ a = acceptance s.config r.decl m d.trust ∧
        (∀ why, a.verdict = .ret why → (t.lane x).state = .ret ∧ (t.lane x).returnReason = some why ∧
          t.findTag r.tag = none ∧ rolledBack s t r) ∧
        ((∀ why, a.verdict ≠ .ret why) →
          t.findTag r.tag = some { r with
            mass := captureMass m, lo := a.lo, hi := a.hi, decision := a.verdict.decision,
            holdClass := a.verdict.decision.holdClass } ∧
          (∀ i, r.bin = some i → (t.bin i).massSum = (s.bin i).massSum + captureMass m - r.mass) ∧
          asksDiverter s t x ∧
          (a.verdict = .hold → s.inRetention = false → t.branch.notices &&& 0x10 ≠ 0)))

/-- A reservation (R6, R41, R42): CLOSED at OPEN, off MAINS or with the clock not set; then FULL with 512 live records;
then DUPLICATE for a tag that a live record holds; then the first eligible bin of the hold class's scan, or where there
is none that of the other class's, and FULL where neither scan finds a bin. -/
def Sys2Proof.Machine.reservationDecides : Prop :=
  ∀ (s : State) (f : DropFacts), ∃ first second : Option BinIdx,
    scanFinds s f.holdClass f.mass first ∧ scanFinds s f.holdClass.other f.mass second ∧
    (s.levels.effective = .opened ∨ s.onMains = false ∨ s.clock.isSet = false → s.reserve f = .error .closed) ∧
    (s.levels.effective ≠ .opened → s.onMains = true → s.clock.isSet = true →
      (512 ≤ s.register.records.length → s.reserve f = .error .full) ∧
      (s.register.records.length < 512 →
        ((∃ r ∈ s.register.records, r.tag = f.tag) → s.reserve f = .error .duplicate) ∧
        ((∀ r ∈ s.register.records, r.tag ≠ f.tag) →
          (first = none → second = none → s.reserve f = .error .full) ∧
          (∀ i, first = some i → ∃ t, s.reserve f = .ok t ∧ reservedIn s t f f.holdClass i) ∧
          (∀ i, first = none → second = some i → ∃ t, s.reserve f = .ok t ∧ reservedIn s t f f.holdClass.other i))))

/-- A released grant (R71, R72): it goes to the lane whose request waits, and of two waiting lanes to the one not last
served, the diverter commanded to that lane's record's bin; with no request the holder is NONE and nothing else
changes. -/
def Sys2Proof.Machine.releasedGrantGoesOn : Prop :=
  ∀ (x : LaneId) (s : State), s.diverter.holder = some x →
    (∀ m : LaneId, s.diverter.waiting m = true → (s.diverter.waiting m.other = true → m ≠ s.diverter.lastServed) →
      takesDiverter s (s.releaseGrant x) m ∧ diverterAtRecord s (s.releaseGrant x) m ∧
      (s.releaseGrant x).lane m.other = s.lane m.other) ∧
    (s.diverter.waiting .a = false → s.diverter.waiting .b = false →
      s.releaseGrant x = { s with diverter := { s.diverter with holder := none } })

/-- Weighing, CHECK, the reservation it makes and the diverter's grant (R6, R40 to R42, R63 to R65, R70 to R72). The
expiry that is not due is the model's reading (log entry 16). -/
def Obligations.WeighAndCheck : Prop := weighing ∧ checkDecides ∧ reservationDecides ∧ releasedGrantGoesOn

/-- The diverter's positioning (R65): at its end, with the diverter at the bin, the record becomes IN_FLIGHT with its
drop time and a receipt number, the first from the next receipt number on, 1 coming after 999,999, that no live record
holds (R10), the route part is made, and the tip pulse begins; otherwise the record is rolled back (R43), the grant
passed on to a waiting lane (R71, R72), DIVERTER added, LANE JAMMED raised, and the bag returned with FAULT. -/
def Sys2Proof.Machine.positioningEnds : Prop :=
  ∀ (x : LaneId) (atBin : Bool) (s : State) (n : Nat), (s.lane x).state = .tip → (s.lane x).phaseTimer = some n →
    (s.now < n → exec (.positioningExpiry x atBin) s = .next s) ∧
    ∀ r, n ≤ s.now → s.reservedOf x = some r → s.register.sound → s.register.fieldsSound →
      (atBin = true → ∃ (t : State) (k tries : Nat), exec (.positioningExpiry x atBin) s = .next t ∧
        k = (s.register.nextReceipt - 1 + tries) % 999999 + 1 ∧ (∀ y ∈ s.register.records, y.receipt ≠ some k) ∧
        (∀ j, j < tries → ∃ y ∈ s.register.records,
          y.receipt = some ((s.register.nextReceipt - 1 + j) % 999999 + 1)) ∧
        t.findTag r.tag = some { r with state := .inFlight, receipt := some k, dropTime := some s.reading } ∧
        t.register.nextReceipt = (if k = 999999 then 1 else k + 1) ∧ t.bins = s.bins ∧
        t = { s with register := t.register, laneA := t.laneA, laneB := t.laneB } ∧
        (t.lane x).state = .route ∧ (t.lane x).route = some
          { record := r.tag, tipTime := s.reading, tipCount := s.now, sensor := false, arrivalRead := none } ∧
        (t.lane x).tip = { on := true, high := s.config.active.level x .tip, pulseEnd := some (s.now + 600) }) ∧
      (atBin = false → ∃ t : State, exec (.positioningExpiry x atBin) s = .next t ∧ t.findTag r.tag = none ∧
        rolledBack s t r ∧
        (t.lane x).state = .ret ∧ (t.lane x).returnReason = some .fault ∧
        (t.lane x).reasons = { (s.lane x).reasons with diverter := true } ∧
        (s.diverter.holder = some x → s.diverter.waiting x = false → t.diverter.holder ≠ some x) ∧
        (s.diverter.holder = some x → grantPasses s t x) ∧
        (s.inRetention = false → t.branch.notices &&& 0x01 ≠ 0))

/-- The route (R66, R11, R12): a trip of the entry sensor begins an arrival read, one at a time; a read that sees the
record's tag takes the arrival, the record HELD in its place, the route gone, the grant passed on to a waiting lane (R71,
R72), the receipt printed or its number shown for 30 s; at a closed lane the arrival is taken likewise, the lane staying closed by its set, or making
the opening check where its set is empty (R52, R53); a read that does not see it changes nothing else; and 4 s after the
tip the record becomes ASTRAY, out of its bin with MISROUTE-SUSPECT, the cursors and serial counters staying as they
are, the grant passes on, DIVERTER is added and LANE JAMMED raised. The entry sensor staying set (log entry 57) and IDLE without an opening
check (log entry 59) are the model's choices. -/
def Sys2Proof.Machine.routeEnds : Prop :=
  ∀ (x : LaneId) (s : State) (y : Route), (s.lane x).route = some y →
    exec (.entrySensorTrip x) s = .next (s.modLane x (fun w =>
      { w with route := some { y with sensor := true, arrivalRead := some (y.arrivalRead.getD (s.now + 400)) } })) ∧
    (∀ n seen fault, y.arrivalRead = some n →
      (s.now < n → exec (.arrivalReadComplete x seen fault) s = .next s) ∧
      (n ≤ s.now → y.record ∉ seen → exec (.arrivalReadComplete x seen fault) s =
        .next (s.modLane x (fun w => { w with route := some { y with arrivalRead := none } }))) ∧
      (∀ r, n ≤ s.now → y.record ∈ seen → s.findTag y.record = some r → r.state = .inFlight →
        (s.lane x).state = .route → s.diverter.waiting x = false →
        ∃ t : State, exec (.arrivalReadComplete x seen fault) s = .next t ∧
        t.findTag y.record = some { r with
          state := .held, reservation := none, lastSeen := some { pass := s.sweep.pass, time := s.reading } } ∧
        t.bins = s.bins ∧ (t.lane x).route = none ∧
        (t.lane x).state = (if (s.lane x).reasons = noReasons then .idle else closedState (s.lane x).reasons) ∧
        t.diverter.holder ≠ some x ∧ (s.diverter.holder = some x → grantPasses s t x) ∧
        (∀ k w, r.receipt = some k → r.dropTime = some w →
          (fault = false → (t.lane x).printed = some
            { number := k, dropTime := w, lane := r.lane, total := r.decl.notes + r.decl.silver + r.decl.bronze }) ∧
          (fault = true → (t.lane x).display = .receiptNumber k (s.now + 30000))))) ∧
    (∀ n seen fault r, y.arrivalRead = some n → n ≤ s.now → y.record ∈ seen → s.findTag y.record = some r →
      r.state = .inFlight → (s.lane x).isClosed = true → s.diverter.waiting x = false →
      ∃ (t : State) (paper : Receipt) (shown : Lane → Lane), exec (.arrivalReadComplete x seen fault) s = .next t ∧
        paper = { number := r.receipt.getD 0, dropTime := r.dropTime.getD { day := 0, second := 0 }, lane := r.lane,
                  total := r.decl.notes + r.decl.silver + r.decl.bronze } ∧
        shown = (fun w => if fault then { w with display := .receiptNumber paper.number (s.now + 30000) }
          else { w with printed := some paper }) ∧
        t.diverter.holder ≠ some x ∧ (s.diverter.holder = some x → grantPasses s t x) ∧ (t.lane x).route = none ∧
        ((s.lane x).reasons ≠ noReasons → t.lane x = shown { s.lane x with route := none } ∧ t.bins = s.bins ∧
          t.findTag y.record = some { r with
            state := .held, reservation := none, lastSeen := some { pass := s.sweep.pass, time := s.reading } }) ∧
        ((s.lane x).reasons = noReasons → s.reservedOf x = none →
          t.bins = s.bins ∧
          t.findTag y.record = some { r with
            state := .held, reservation := none, lastSeen := some { pass := s.sweep.pass, time := s.reading } } ∧
          ((s.lane x).inputs.bagPresent = false → (t.lane x).state = .idle ∧ (t.lane x).session = none) ∧
          ((s.lane x).inputs.bagPresent = true →
            (t.lane x).state = .closed ∧ (t.lane x).tagReader = some .openingCheck))) ∧
    (s.now < y.tipCount + 4000 → exec (.routeTimeout x) s = .next s) ∧
    (∀ r, y.tipCount + 4000 ≤ s.now → s.findTag y.record = some r → r.state = .inFlight →
      ∃ t : State, exec (.routeTimeout x) s = .next t ∧
        t.findTag y.record = some { r with
          state := .astray, bin := none, reservation := none, flags := { r.flags with misrouteSuspect := true } } ∧
        (∀ i, t.bin i = if r.bin = some i then
            { s.bin i with contents := (s.bin i).contents.erase r.tag, massSum := (s.bin i).massSum - r.mass }
          else s.bin i) ∧ t.alloc = s.alloc ∧
        (t.lane x).route = none ∧ (t.lane x).reasons = { (s.lane x).reasons with diverter := true } ∧
        (t.lane x).isClosed = true ∧ (s.diverter.waiting x = false → t.diverter.holder ≠ some x) ∧
        (s.diverter.holder = some x → grantPasses s t x) ∧
        (s.inRetention = false → t.branch.notices &&& 0x01 ≠ 0))

/-- The ends of the pulses and of RETURN_WAIT (R56, R57, R66 to R68): each output is reset at its pulse's end; a lock
pulse then has 500 ms to be confirmed; a tip pulse that leaves the bag in the drawer jams the lane with its route; a
return pulse leads to RETURN_WAIT, or jams a drawer still closed; and 60 s of RETURN_WAIT with the bag still there raise
BAG LEFT and set the mark. Before their moments they are no events. -/
def Sys2Proof.Machine.pulsesAndReturns : Prop :=
  ∀ (x : LaneId) (s : State) (n : Nat),
    (∀ o, ((s.lane x).output o).pulseEnd = some n → s.now < n → exec (.pulseExpiry x o) s = .next s) ∧
    (∀ o, ((s.lane x).output o).pulseEnd = some n → n ≤ s.now → ∃ t u : State, exec (.pulseExpiry x o) s = .next t ∧
      u = s.modLane x (fun y => y.setOutput o
        { on := false, high := !s.config.active.level x o, pulseEnd := none }) ∧
      (o = .lock → t = u.modLane x (fun y =>
        { y with lockGoal := y.lockGoal.map (fun g => { g with confirmBy := some (s.now + 500) }) })) ∧
      (o = .tip → ((s.lane x).route = none ∨ (s.lane x).inputs.bagPresent = false → t = u) ∧
        ((s.lane x).route ≠ none → (s.lane x).inputs.bagPresent = true →
          jams u t x ∧ (t.lane x).route = (s.lane x).route)) ∧
      (o = .ret → ((s.lane x).state ≠ .ret → t = u) ∧
        ((s.lane x).state = .ret → (s.lane x).inputs.drawerClosed = true → jams u t x) ∧
        ((s.lane x).state = .ret → (s.lane x).inputs.drawerClosed = false →
          t.bins = s.bins ∧ t.lane x.other = s.lane x.other ∧ (t.lane x).state = .returnWait ∧
            (t.lane x).returnReason = (s.lane x).returnReason ∧ (t.lane x).phaseTimer = some (s.now + 60000)))) ∧
    ((s.lane x).state = .returnWait → (s.lane x).phaseTimer = some n →
      (s.now < n → exec (.returnWaitExpiry x) s = .next s) ∧
      (n ≤ s.now → (s.lane x).inputs.bagPresent = false →
        exec (.returnWaitExpiry x) s = .next (s.modLane x (fun y => { y with phaseTimer := none }))) ∧
      (n ≤ s.now → (s.lane x).inputs.bagPresent = true →
        exec (.returnWaitExpiry x) s = .next ((s.modLane x (fun y =>
          { y with phaseTimer := none, bagLeft := true })).notify .branch .bagLeft)))

/-- The tip, the route and the return (R9 to R12, R56, R65 to R68). Early expiries, the kept end of a shown number, a
RETURN_WAIT without a bag, a tip pulse after the arrival, a number shown at a closed lane, the entry sensor after its
first trip, and an arrival with a bag in the drawer are the model's choices (log entries 16, 30, 40, 50, 56, 57, 59). -/
def Obligations.TipRouteAndReturn : Prop := positioningEnds ∧ routeEnds ∧ pulsesAndReturns

/-! ### Power (chapter 12) -/

/-- The loss of mains (R208, R52): BATTERY; POWER joins both lanes' sets and closes each at once, outputs reset but the
tip of a route in progress, waiting requests and the grant of a lane in TIP given up, records and bins untouched; an
INVENTORY pass ends unfinished, the step timer then starting, while its read goes on; POWER is raised on the security
link. On BATTERY and in RETENTION it is no event. -/
def Sys2Proof.Machine.mainsLost : Prop :=
  ∀ s : State,
    (s.onMains = false → exec .mainsLoss s = .next s) ∧
    (s.onMains = true → ∃ t : State, exec .mainsLoss s = .next t ∧
      t = { s with power := t.power, laneA := t.laneA, laneB := t.laneB, diverter := t.diverter, sweep := t.sweep,
                   security := t.security } ∧
      t.power = { s.power with state := .battery, mainsPresent := false } ∧
      (∀ x, (t.lane x).reasons = { (s.lane x).reasons with power := true } ∧ (t.lane x).isClosed = true ∧
        (t.lane x).session = none ∧ (t.lane x).phaseTimer = none ∧ (t.lane x).route = (s.lane x).route ∧
        (t.lane x).lock.on = false ∧ (t.lane x).ret.on = false ∧
        ((s.lane x).route = none → (t.lane x).tip.on = false) ∧
        ((s.lane x).route ≠ none → (t.lane x).tip = (s.lane x).tip)) ∧
      t.diverter.waitingA = false ∧ t.diverter.waitingB = false ∧
      (∀ x, s.diverter.holder = some x →
        t.diverter.holder = if (s.lane x).state = .tip then none else some x) ∧
      t.sweep = { s.sweep with stepTimer := t.sweep.stepTimer } ∧
      t.sweep.stepTimer = (if s.inInventory = true ∧ s.clock.isSet = true then
        some (s.now + s.config.verificationInterval * 30000) else s.sweep.stepTimer) ∧
      t.security = { s.security with notices := s.security.notices ||| 0x20 })

/-- The return of mains (R208 to R210, R152): the INVENTORY pass begins, reading rack 0 at once where the bus is free;
the step timer stops, a pending step is removed and a WAITING one withdrawn; racks over the MAINS threshold become
overdue; and POWER is raised. From RETENTION the stopped blocks start again first: the branch link and the courier port
as at a cold start, the lanes with their inputs taken afresh, the doors taken afresh with an UNSECURED bin found CLOSED
engaging and a LATCHED one found OPEN UNSECURED (R143). The battery-low condition stays as it stands. On MAINS it is no
event. -/
def Sys2Proof.Machine.mainsBack : Prop :=
  ∀ (cabinet : CabinetLines) (links : RestartLines) (s : State),
    (s.onMains = true → exec (.mainsReturn cabinet links) s = .next s) ∧
    (s.onMains = false → ∃ t : State, exec (.mainsReturn cabinet links) s = .next t ∧
      t.power.mainsPresent = true ∧ t.power.batteryLow = s.power.batteryLow ∧
      (s.grant = .nothing → t.power.state = .mains (.inventory 0 true) ∧ t.sweep.read =
        some { rack := 0, asker := .inventory, start := s.reading, startCount := s.now }) ∧
      (s.grant ≠ .nothing → t.power.state = .mains (.inventory 0 false) ∧ t.sweep.read = s.sweep.read) ∧
      t.sweep.stepTimer = none ∧ t.sweep.pendingStep = false ∧
      t.sweep.step = (if s.sweep.step = .waiting then .timing else s.sweep.step) ∧
      t.sweep.pointer = s.sweep.pointer ∧ t.sweep.pass = s.sweep.pass ∧ t.sweep.ages = s.sweep.ages ∧
      (∀ k, t.sweep.overdue.get k = (s.sweep.overdue.get k ||
        decide (s.config.verificationInterval * 60000 < s.sweep.ages.get k))) ∧
      t.security.notices &&& 0x20 ≠ 0 ∧ t.levels = s.levels ∧ t.manifest = s.manifest ∧ t.clock = s.clock ∧
      (s.inRetention = false → t = { s with power := t.power, sweep := t.sweep, security := t.security }) ∧
      (s.inRetention = true →
        t.branch.assembly.phase = .hunt ∧ t.branch.exchange = .idle ∧ t.branch.cursor = none ∧
        t.branch.notices = 0 ∧ t.branch.line = (if links.branchSpace then .space s.now false else .mark) ∧
        t.courier.assembly.phase = .hunt ∧ t.courier.exchange = .idle ∧ t.courier.cursor = none ∧
        t.courier.notices = 0 ∧ t.courier.line = (if links.courierSpace then .space s.now false else .mark) ∧
        t.laneA.inputs = cabinet.inputsA ∧ t.laneB.inputs = cabinet.inputsB ∧
        (∀ i d, d = (if cabinet.doorsOpen.getLsbD i.val then Door.opened else Door.closed) →
          (t.bin i).door = d ∧
          ((s.bin i).latch = .unsecured → d = .closed →
            (t.bin i).latch = .unsecured ∧ (t.bin i).op = .engaging s.now false) ∧
          ((s.bin i).latch = .unsecured → d = .opened → (t.bin i).latch = .unsecured ∧ (t.bin i).op = .idle) ∧
          ((s.bin i).latch = .latched → d = .opened →
            (t.bin i).latch = .unsecured ∧ (t.bin i).op = .idle ∧ t.security.notices &&& 0x02 ≠ 0) ∧
          ((s.bin i).latch = .latched → d = .closed → (t.bin i).latch = .latched ∧ (t.bin i).op = .idle) ∧
          ((s.bin i).latch = .fault → (t.bin i).latch = .fault ∧ (t.bin i).op = .idle))))

/-- The entry into RETENTION (R208, R209, R18, R24, R52, R71, R122, R143, R153, R190, R202), at battery low on BATTERY:
IN_FLIGHT records become ASTRAY out of their bins, an ACTIVE manifest is closed and the LISTED records of its entries
become HELD, RESERVED records and all others are kept, the level falls to SEALED with no request, the lanes are closed
in the state their reasons give, which they keep but for LEVEL at a fall from OPEN, without session or route and,
holding POWER, with every output reset; the diverter, the selection, the latch operations (their bins UNSECURED, with
BIN UNSECURED, unless in FAULT), the rack read and the strays list are given up, and the branch link and the courier
port stop. The records are told of where no lane makes an opening check at a fall from OPEN, as none does that holds
POWER. On MAINS and in RETENTION it is no event. -/
def Sys2Proof.Machine.retentionEntered : Prop :=
  ∀ s : State,
    (s.power.state ≠ .battery → exec .batteryLow s = .next s) ∧
    (s.power.state = .battery → ∃ t : State, exec .batteryLow s = .next t ∧
      t.power = { s.power with state := .retention, batteryLow := true } ∧
      t.levels = { s.levels with
        branchRequest := .sealed, courierRequest := .nothing, target := .sealed, effective := .sealed, raise := none } ∧
      (∀ x, (t.lane x).isClosed = true ∧ (t.lane x).state = closedState (t.lane x).reasons ∧
        (t.lane x).reasons = (if s.levels.effective = .opened then { (s.lane x).reasons with level := false }
          else (s.lane x).reasons) ∧
        (t.lane x).session = none ∧ (t.lane x).route = none ∧ (t.lane x).phaseTimer = none ∧
        ((s.lane x).reasons.power = true → (t.lane x).lock.on = false ∧ (t.lane x).tip.on = false ∧
          (t.lane x).ret.on = false ∧ (t.lane x).lock.pulseEnd = none ∧ (t.lane x).tip.pulseEnd = none ∧
          (t.lane x).ret.pulseEnd = none)) ∧
      t.diverter.holder = none ∧ t.diverter.waitingA = false ∧ t.diverter.waitingB = false ∧
      t.selection = none ∧ t.strays = { entries := [], incomplete := false } ∧
      (∀ i, (t.bin i).op = .idle ∧ (t.bin i).pocketReads = [] ∧ (t.bin i).cls = (s.bin i).cls ∧
        ((s.bin i).latch = .fault → (t.bin i).latch = .fault) ∧
        ((s.bin i).latch = .latched → (s.bin i).op = .idle → (t.bin i).latch = .latched) ∧
        ((s.bin i).latch ≠ .fault → (s.bin i).op ≠ .idle →
          (t.bin i).latch = .unsecured ∧ t.security.notices &&& 0x02 ≠ 0)) ∧
      t.sweep.read = none ∧ t.sweep.stepTimer = none ∧ t.sweep.step = .timing ∧ t.sweep.pendingStep = false ∧
      t.sweep.pointer = s.sweep.pointer ∧ t.sweep.pass = s.sweep.pass ∧ t.sweep.ages = s.sweep.ages ∧
      (∀ r ∈ t.register.records, r.state ≠ .inFlight) ∧
      (s.register.sound → s.levels.effective ≠ .opened ∨ (∀ x, (s.lane x).reasons.power = true) →
        t.register.records.map (fun r => r.tag) = s.register.records.map (fun r => r.tag) ∧ t.alloc = s.alloc ∧
        ∀ r ∈ s.register.records,
          (r.state = .inFlight → t.findTag r.tag = some { r with
            state := .astray, bin := none, reservation := none, flags := { r.flags with misrouteSuspect := true } }) ∧
          (r.state = .reserved → t.findTag r.tag = some r) ∧
          (∀ n, r.state = .listed → s.manifest.state = .active → r.receipt = some n → n ∈ s.manifest.entries →
            t.findTag r.tag = some { r with state := .held }) ∧
          (r.state ≠ .inFlight → r.state ≠ .listed ∨ s.manifest.state ≠ .active → t.findTag r.tag = some r)) ∧
      t.manifest = (if s.manifest.state = .active then { s.manifest with
          state := .closed, entries := [], returned := s.manifest.returned + s.manifest.entries.length,
          finish := some s.reading }
        else s.manifest) ∧
      t.branch.assembly.phase = .hunt ∧ t.branch.exchange = .idle ∧ t.branch.cursor = none ∧ t.branch.notices = 0 ∧
      t.courier.assembly.phase = .hunt ∧ t.courier.exchange = .idle ∧ t.courier.cursor = none ∧
      t.courier.notices = 0 ∧ t.security.notices &&& 0x20 ≠ 0 ∧ t.clock = s.clock ∧ t.config = s.config ∧
      t.windows = s.windows)

/-- The changes of power (R208, R209). The order at the loss, the lines given as operands and a battery-low condition
that stands on at the changes between MAINS and BATTERY are the model's choices (log entries 13, 32 and 62). -/
def Obligations.PowerChanges : Prop := mainsLost ∧ mainsBack ∧ retentionEntered

/-- The links after a cold start (R202, R48, R49, R69): each waits for a frame with its exchange IDLE, its cursor CLOSED
and its line as found; the branch's notice set holds RESTART alone, and nothing where the start leaves that link
stopped, the courier port's set is empty, and the security link's holds RESTART, BIN UNSECURED where the start makes a
bin UNSECURED, LANE FORCED where a lane that runs finds its drawer forced, and nothing else. The moment of the last character, which the
assembly keeps, is the model's choice (log entry 61). -/
def linksStarted (t : State) (lines : FieldLines) (runs : Bool) (unsecured : Prop) : Prop :=
  ∃ fresh : Bool → BitVec 8 → LinkState,
    (∀ space n, fresh space n =
      { assembly := { phase := .hunt, bytes := [], lastEnd := t.now }, exchange := .idle,
        line := if space then .space t.now false else .mark, cursor := none, notices := n }) ∧
    t.branch = fresh lines.branchSpace (if runs then 0x40 else 0) ∧ t.courier = fresh lines.courierSpace 0 ∧
    t.security = fresh lines.securitySpace t.security.notices ∧ t.security.notices &&& 0xBC = 0 ∧
    t.security.notices &&& 0x40 ≠ 0 ∧ (t.security.notices &&& 0x02 ≠ 0 ↔ unsecured) ∧
    (t.security.notices &&& 0x01 ≠ 0 ↔
      runs = true ∧ (showsForcing lines.inputsA = true ∨ showsForcing lines.inputsB = true))

/-- A cold start with invalid retention, the marker absent or the storage not held (R26, R49, R54, R103, R123, R190,
R202, R203, R205, R210, R212): whatever stood before, with mains present and the field as log entry 1 has it (doors
CLOSED, drawers shut, locked and empty, lines at mark) the part is in the reset state, but for what waits in its queue;
and whatever the field, the retained storage is initialised, the retention marker present, and the links start afresh
with RESTART raised. -/
def Sys2Proof.Machine.coldStartInitialises : Prop :=
  ∀ (held mains low : Bool) (lines : FieldLines) (s : State), (s.marker && held) = false →
    (∃ t : State, exec (.coldStart held mains low lines) s = .next t ∧
      t.register = { records := [], nextReceipt := 1 } ∧ t.config = defaultConfig ∧ t.clock = unsetClock ∧
      (∀ i, t.dep i = none) ∧ (∀ i, t.windows.get i = none) ∧ t.manifest = emptyManifest ∧
      t.levels = sealedArbiter false ∧ t.selection = none ∧ t.strays = noStrays ∧ t.diverter = idleDiverter ∧
      t.alloc = { normalCursor := 0, inspectCursor := 112, normalSerial := 0, inspectSerial := 0 } ∧
      t.marker = true ∧ t.lastStart = .retentionLost ∧ t.power.mainsPresent = mains ∧ t.power.batteryLow = low ∧
      (mains = false → t.power.state = if low then .retention else .battery) ∧
      (∀ i, (t.bin i).contents = [] ∧ (t.bin i).massSum = 0 ∧ (t.bin i).lastCheck = none ∧
        (t.bin i).cls = (if i.val < 112 then .normal else .inspect) ∧ (t.bin i).latch = .unsecured ∧
        (t.bin i).door = (if lines.doorsOpen.getLsbD i.val then .opened else .closed)) ∧
      (∀ x, (t.lane x).reasons.power = true ∧ (t.lane x).reasons.clock = true ∧ (t.lane x).isClosed = true) ∧
      linksStarted t lines (mains || !low)
        ((mains || !low) = false ∨ ∃ i : BinIdx, lines.doorsOpen.getLsbD i.val = true)) ∧
    (mains = true → low = false →
      lines = { doorsOpen := 0, inputsA := shutDrawer, inputsB := shutDrawer, branchSpace := false,
                securitySpace := false, courierSpace := false } →
      exec (.coldStart held mains low lines) s = .next { State.reset with pending := s.pending })

/-- A cold start with valid retention (R18, R25, R48, R54, R71, R102, R123, R144, R190, R202, R210, R212): the retained
storage is kept, the cursors, the serial counters and the bins' contents and mass sums with it, IN_FLIGHT records
becoming ASTRAY out of their bins and an ACTIVE manifest closed, its LISTED records HELD; levels are SEALED with the
duress latch kept and the allowance recomputed; the lanes are closed with POWER, keeping BRANCH, FORCED, JAMMED and
DIVERTER; latches are taken as found, the doors afresh, no pocket read going on (log entry 58); and the links start
afresh, RESTART raised on the security link and on the branch link where it runs. -/
def Sys2Proof.Machine.coldStartKeepsStorage : Prop :=
  ∀ (mains low : Bool) (lines : FieldLines) (s : State), s.marker = true →
    ∃ t : State, exec (.coldStart true mains low lines) s = .next t ∧
      t.config = s.config ∧ t.clock = s.clock ∧ t.windows = s.windows ∧
      (∀ i, (t.dep i).map (fun d => { d with liveCount := 0 }) = (s.dep i).map (fun d => { d with liveCount := 0 })) ∧
      t.register.nextReceipt = s.register.nextReceipt ∧ t.lastStart = .retentionKept ∧ t.marker = true ∧
      t.power.mainsPresent = mains ∧ t.power.batteryLow = low ∧
      (t.levels.branchRequest = .sealed ∧ t.levels.courierRequest = .nothing ∧ t.levels.ceiling = .sealed ∧
        t.levels.duress = s.levels.duress ∧ t.levels.target = .sealed ∧ t.levels.effective = .sealed ∧
        t.levels.raise = none ∧ allowanceOf t t.levels.allowance) ∧
      t.selection = none ∧ t.strays = noStrays ∧ t.sweep.pointer = s.sweep.pointer ∧ t.sweep.pass = s.sweep.pass ∧
      (∀ k, t.sweep.ages.get k = 0 ∧ t.sweep.overdue.get k = false) ∧
      t.manifest = (if s.manifest.state = .active then { s.manifest with
          state := .closed, entries := [], returned := s.manifest.returned + s.manifest.entries.length,
          finish := some s.reading }
        else s.manifest) ∧
      (∀ r ∈ t.register.records, r.state ≠ .inFlight) ∧
      (s.register.sound → (showsForcing lines.inputsA = false ∧ showsForcing lines.inputsB = false) →
        t.register.records.map (fun r => r.tag) = s.register.records.map (fun r => r.tag) ∧
        (∀ r ∈ s.register.records, r.state = .inFlight → t.findTag r.tag = some { r with
          state := .astray, bin := none, reservation := none, flags := { r.flags with misrouteSuspect := true } }) ∧
        (∀ r ∈ s.register.records, r.state ≠ .inFlight → (r.state ≠ .listed ∨ s.manifest.state ≠ .active) →
          t.findTag r.tag = some r) ∧
        (∀ r ∈ s.register.records, ∀ n, r.state = .listed → s.manifest.state = .active → r.receipt = some n →
          n ∈ s.manifest.entries → t.findTag r.tag = some { r with state := .held }) ∧
        t.alloc = s.alloc) ∧
      (s.cabinetSound → showsForcing lines.inputsA = false → showsForcing lines.inputsB = false → ∀ i,
        (t.bin i).contents = (s.bin i).contents.filter (fun g =>
          !(s.findTag g).any (fun r => r.state == .inFlight)) ∧
        (t.bin i).massSum = ((s.register.records.filter (fun r =>
          r.bin == some i && r.state != .inFlight)).map (fun r => r.mass)).sum) ∧
      t.alloc.normalSerial = s.alloc.normalSerial ∧ t.alloc.inspectSerial = s.alloc.inspectSerial ∧
      (∀ x, (t.lane x).reasons.power = true ∧ (t.lane x).reasons.clock = !s.clock.isSet ∧
        (t.lane x).reasons.branch = (s.lane x).reasons.branch ∧ (t.lane x).reasons.jammed = (s.lane x).reasons.jammed ∧
        (t.lane x).reasons.diverter = (s.lane x).reasons.diverter ∧
        ((s.lane x).reasons.forced = true → (t.lane x).reasons.forced = true) ∧
        (t.lane x).reasons.level = false ∧ (t.lane x).reasons.service = false ∧ (t.lane x).isClosed = true ∧
        (t.lane x).session = none ∧ (t.lane x).route = none ∧ (t.lane x).returnReason = none ∧
        (t.lane x).bagLeft = false) ∧
      (∀ i d, d = (if lines.doorsOpen.getLsbD i.val then Door.opened else Door.closed) →
        (t.bin i).door = d ∧ (t.bin i).cls = (s.bin i).cls ∧ (t.bin i).lastCheck = (s.bin i).lastCheck ∧
        ((s.bin i).latch = .fault → (t.bin i).latch = .fault) ∧
        ((s.bin i).latch = .latched → d = .closed → (t.bin i).latch = .latched ∧ (t.bin i).op = .idle) ∧
        ((s.bin i).latch ≠ .fault → d = .opened → (t.bin i).latch = .unsecured ∧ (t.bin i).op = .idle) ∧
        ((s.bin i).latch = .unlatched ∨ (s.bin i).latch = .unsecured → d = .closed → (mains || !low) = true →
          (t.bin i).latch = (s.bin i).latch ∧ (t.bin i).op = .engaging s.now false) ∧
        ((s.bin i).latch = .unlatched ∨ (s.bin i).latch = .unsecured → d = .closed → (mains || !low) = false →
          (t.bin i).latch = .unsecured ∧ (t.bin i).op = .idle) ∧
        (t.bin i).pocketReads = []) ∧
      linksStarted t lines (mains || !low) (∃ i, (s.bin i).latch ≠ .fault ∧
        (lines.doorsOpen.getLsbD i.val = true ∨ ((s.bin i).latch ≠ .latched ∧ (mains || !low) = false)))

/-- The reset state satisfies every invariant of the model: the register and cabinet, the receipts, the manifest, the
depositors, the levels, the latches and doors, the lanes, the settings. Its field lines and empty parts are the
model's choices (log entries 1, 2 and 34). -/
def Obligations.ResetIsSound : Prop :=
  State.reset.cabinetSound ∧ State.reset.register.fieldsSound ∧ State.reset.manifestSound ∧
    State.reset.depositorsSound ∧ State.reset.cardsUnique ∧ State.reset.liveCountsSound ∧ State.reset.levels.sound ∧
    State.reset.doorsSound ∧ State.reset.accessSound ∧ (∀ x, (State.reset.lane x).sound) ∧
    State.reset.config.sound ∧ State.reset.clock.sound ∧ State.reset.windowsSound ∧ State.reset.strays.sound

/-- The cold start, with invalid and with valid retention (R212). The field of the reset state, its empty parts, the
latch states while the bins engage, the bins that a start in RETENTION does not relatch, the pocket reads given up, and
the moment of the last character at a start are the model's choices (log entries 1, 2, 20, 21, 34, 58 and 61). -/
def Obligations.ColdStart : Prop := coldStartInitialises ∧ coldStartKeepsStorage

end
end

