-- ==== Sys2Proof/Laws/State.lean ====
section
/-!
SUPPORT. The small lemmas of the state's accessors: what an update of a table entry, a link, a lane, a bin, a record
or a depositor entry reads as afterwards.
-/
namespace Sys2Proof

/-! ### Tables -/

@[simp] theorem Table.get_set_self {α : Type} {n : Nat} (t : Table α n) (i : Fin n) (a : α) :
    (t.set i a).get i = a := by
  simp [Table.get, Table.set]

theorem Table.get_set_ne {α : Type} {n : Nat} (t : Table α n) (i j : Fin n) (a : α) (h : i ≠ j) :
    (t.set i a).get j = t.get j := by
  have hv : i.val ≠ j.val := fun e => h (Fin.ext e)
  simp [Table.get, Table.set, hv]

/-- The entry at `j` after the entry at `i` is replaced. -/
theorem Table.get_set {α : Type} {n : Nat} (t : Table α n) (i j : Fin n) (a : α) :
    (t.set i a).get j = if i = j then a else t.get j := by
  by_cases h : i = j
  · subst h; simp
  · simp [h, Table.get_set_ne _ _ _ _ h]

@[simp] theorem Table.get_ofFn {α : Type} {n : Nat} (f : Fin n → α) (i : Fin n) : (Table.ofFn f).get i = f i := by
  simp [Table.get, Table.ofFn]

@[simp] theorem Table.get_const {α : Type} {n : Nat} (a : α) (i : Fin n) : (Table.const n a).get i = a := by
  simp [Table.get, Table.const]

/-- Two tables with the same entries are the same table. -/
theorem Table.ext_get {α : Type} {n : Nat} (t u : Table α n) (h : ∀ i, t.get i = u.get i) : t = u := by
  obtain ⟨ti, ht⟩ := t
  obtain ⟨ui, hu⟩ := u
  have : ti = ui := by
    apply List.ext_getElem (by omega)
    intro k h1 h2
    exact h ⟨k, by omega⟩
  subst this
  rfl

namespace Machine

/-! ### Links -/

@[simp] theorem State.link_setLink_self (s : State) (l : Link) (x : LinkState) : (s.setLink l x).link l = x := by
  cases l <;> rfl

theorem State.link_setLink (s : State) (l m : Link) (x : LinkState) :
    (s.setLink l x).link m = if l = m then x else s.link m := by
  cases l <;> cases m <;> rfl

/-- A notice is made present on its link, when the link runs, and nothing else of the link changes (R200). -/
theorem State.link_notify (s : State) (l m : Link) (n : Notice) :
    (s.notify l n).link m =
      if s.linkRuns l ∧ l = m then { s.link m with notices := (s.link m).notices ||| noticeBit l n } else s.link m := by
  unfold State.notify
  by_cases h : s.linkRuns l
  · by_cases e : l = m
    · subst e; simp [h]
    · simp [h, e, State.link_setLink]
  · simp [h]

/-! ### A millisecond of the clock -/

/-- What 1 ms does to the battery-low condition (R208): it is not set, and off MAINS alone it may clear. -/
theorem State.batteryStillLow_cases (s : State) :
    s.batteryStillLow = s.power.batteryLow ∨ (s.onMains = false ∧ s.batteryStillLow = false) := by
  unfold State.batteryStillLow
  cases s.onMains <;> cases s.power.batteryLow <;> simp

@[simp] theorem State.pass_power (s : State) :
    s.pass.power = { s.power with batteryLow := s.batteryStillLow } := rfl

@[simp] theorem State.pass_onMains (s : State) : s.pass.onMains = s.onMains := rfl

@[simp] theorem State.pass_inRetention (s : State) : s.pass.inRetention = s.inRetention := rfl

/-! ### Lanes -/

@[simp] theorem State.lane_setLane_self (s : State) (l : LaneId) (x : Lane) : (s.setLane l x).lane l = x := by
  cases l <;> rfl

theorem State.lane_setLane (s : State) (l m : LaneId) (x : Lane) :
    (s.setLane l x).lane m = if l = m then x else s.lane m := by
  cases l <;> cases m <;> rfl

@[simp] theorem State.lane_modLane_self (s : State) (l : LaneId) (f : Lane → Lane) :
    (s.modLane l f).lane l = f (s.lane l) := by
  simp [State.modLane]

theorem State.lane_modLane (s : State) (l m : LaneId) (f : Lane → Lane) :
    (s.modLane l f).lane m = if l = m then f (s.lane m) else s.lane m := by
  cases l <;> cases m <;> rfl

/-! ### Bins -/

@[simp] theorem State.bin_modBin_self (s : State) (i : BinIdx) (f : Bin → Bin) :
    (s.modBin i f).bin i = f (s.bin i) := by
  simp [State.modBin, State.bin]

theorem State.bin_modBin (s : State) (i j : BinIdx) (f : Bin → Bin) :
    (s.modBin i f).bin j = if i = j then f (s.bin j) else s.bin j := by
  by_cases h : i = j
  · subst h; simp
  · simp [State.modBin, State.bin, Table.get_set, h]

theorem mem_rackBins (rack : RackIdx) (i : BinIdx) : i ∈ rackBins rack ↔ rackOf i = rack := by
  revert rack i; decide

/-- A rack is quiet when none of its bins is UNLATCHED and none of its latches is releasing or engaging (R134). -/
theorem State.rackQuiet_iff (s : State) (rack : RackIdx) :
    s.rackQuiet rack = true ↔ ∀ i, rackOf i = rack →
      (s.bin i).latch ≠ .unlatched ∧ (s.bin i).op.releasingSince = none ∧ (s.bin i).op.engagingSince = none := by
  simp only [State.rackQuiet, List.all_eq_true, mem_rackBins]
  refine forall_congr' fun i => forall_congr' fun _ => ?_
  cases (s.bin i).op <;> simp [LatchOp.inProgress, LatchOp.releasingSince, LatchOp.engagingSince]

/-! ### Depositor entries -/

theorem State.dep_modDep (s : State) (i j : DepIdx) (f : Depositor → Depositor) :
    (s.modDep i f).dep j = if i = j then (s.dep j).map f else s.dep j := by
  by_cases h : i = j
  · subst h; simp [State.modDep, State.dep]
  · simp [State.modDep, State.dep, Table.get_set, h]

theorem State.dep_setDep (s : State) (i j : DepIdx) (d : Option Depositor) :
    (s.setDep i d).dep j = if i = j then d else s.dep j := by
  by_cases h : i = j
  · subst h; simp [State.setDep, State.dep]
  · simp [State.setDep, State.dep, Table.get_set, h]

/-! ### Records -/

@[simp] theorem State.records_modRecord (s : State) (t : Tag) (f : BagRecord → BagRecord) :
    (s.modRecord t f).register.records = s.register.records.map (fun r => if r.tag = t then f r else r) := rfl

@[simp] theorem State.nextReceipt_modRecord (s : State) (t : Tag) (f : BagRecord → BagRecord) :
    (s.modRecord t f).register.nextReceipt = s.register.nextReceipt := rfl

@[simp] theorem State.records_dropRecord (s : State) (t : Tag) :
    (s.dropRecord t).register.records = s.register.records.filter (fun r => r.tag != t) := rfl

@[simp] theorem State.nextReceipt_dropRecord (s : State) (t : Tag) :
    (s.dropRecord t).register.nextReceipt = s.register.nextReceipt := rfl

@[simp] theorem State.live_modRecord (s : State) (t : Tag) (f : BagRecord → BagRecord) :
    (s.modRecord t f).live = s.live := by
  simp [State.live]

end Machine

end Sys2Proof
end

