-- ==== Sys2Proof/Laws/Frames.lean ====
section
/-!
SUPPORT. For each shared operation one simp lemma that names every field of the state it leaves as it was. A statement
about such a field passes through the operation by simp.
-/
namespace Sys2Proof.Machine

/-- A fold keeps whatever each of its steps keeps. -/
theorem foldl_keeps {β γ : Type} (f : State → β → State) (p : State → γ) (h : ∀ s b, p (f s b) = p s) (l : List β)
    (s : State) : p (l.foldl f s) = p s := by
  induction l generalizing s with
  | nil => rfl
  | cons b rest ih => simp only [List.foldl_cons, ih, h]


/-! ### Ops -/

@[simp] theorem State.setLink_frame (s : State) (l : Link) (x : LinkState) :
    (s.setLink l x).clock = s.clock ∧ (s.setLink l x).power = s.power ∧ (s.setLink l x).marker = s.marker ∧
    (s.setLink l x).config = s.config ∧ (s.setLink l x).register = s.register ∧ (s.setLink l x).bins = s.bins ∧
    (s.setLink l x).alloc = s.alloc ∧ (s.setLink l x).depositors = s.depositors ∧ (s.setLink l x).laneA = s.laneA ∧
    (s.setLink l x).laneB = s.laneB ∧ (s.setLink l x).diverter = s.diverter ∧ (s.setLink l x).levels = s.levels ∧
    (s.setLink l x).windows = s.windows ∧ (s.setLink l x).selection = s.selection ∧ (s.setLink l x).sweep = s.sweep ∧
    (s.setLink l x).strays = s.strays ∧ (s.setLink l x).manifest = s.manifest ∧
    (s.setLink l x).lastStart = s.lastStart ∧ (s.setLink l x).pending = s.pending := by
  and_intros <;> simp only [State.setLink] <;> split <;> simp

@[simp] theorem State.setLane_frame (s : State) (l : LaneId) (x : Lane) :
    (s.setLane l x).clock = s.clock ∧ (s.setLane l x).power = s.power ∧ (s.setLane l x).marker = s.marker ∧
    (s.setLane l x).config = s.config ∧ (s.setLane l x).register = s.register ∧ (s.setLane l x).bins = s.bins ∧
    (s.setLane l x).alloc = s.alloc ∧ (s.setLane l x).depositors = s.depositors ∧
    (s.setLane l x).diverter = s.diverter ∧ (s.setLane l x).levels = s.levels ∧ (s.setLane l x).windows = s.windows ∧
    (s.setLane l x).selection = s.selection ∧ (s.setLane l x).sweep = s.sweep ∧ (s.setLane l x).strays = s.strays ∧
    (s.setLane l x).manifest = s.manifest ∧ (s.setLane l x).branch = s.branch ∧
    (s.setLane l x).security = s.security ∧ (s.setLane l x).courier = s.courier ∧
    (s.setLane l x).lastStart = s.lastStart ∧ (s.setLane l x).pending = s.pending := by
  and_intros <;> simp only [State.setLane] <;> split <;> simp

@[simp] theorem State.modLane_frame (s : State) (l : LaneId) (f : Lane → Lane) :
    (s.modLane l f).clock = s.clock ∧ (s.modLane l f).power = s.power ∧ (s.modLane l f).marker = s.marker ∧
    (s.modLane l f).config = s.config ∧ (s.modLane l f).register = s.register ∧ (s.modLane l f).bins = s.bins ∧
    (s.modLane l f).alloc = s.alloc ∧ (s.modLane l f).depositors = s.depositors ∧
    (s.modLane l f).diverter = s.diverter ∧ (s.modLane l f).levels = s.levels ∧ (s.modLane l f).windows = s.windows ∧
    (s.modLane l f).selection = s.selection ∧ (s.modLane l f).sweep = s.sweep ∧ (s.modLane l f).strays = s.strays ∧
    (s.modLane l f).manifest = s.manifest ∧ (s.modLane l f).branch = s.branch ∧
    (s.modLane l f).security = s.security ∧ (s.modLane l f).courier = s.courier ∧
    (s.modLane l f).lastStart = s.lastStart ∧ (s.modLane l f).pending = s.pending := by
  simp [State.modLane]

@[simp] theorem State.modBin_frame (s : State) (i : BinIdx) (f : Bin → Bin) :
    (s.modBin i f).clock = s.clock ∧ (s.modBin i f).power = s.power ∧ (s.modBin i f).marker = s.marker ∧
    (s.modBin i f).config = s.config ∧ (s.modBin i f).register = s.register ∧ (s.modBin i f).alloc = s.alloc ∧
    (s.modBin i f).depositors = s.depositors ∧ (s.modBin i f).laneA = s.laneA ∧ (s.modBin i f).laneB = s.laneB ∧
    (s.modBin i f).diverter = s.diverter ∧ (s.modBin i f).levels = s.levels ∧ (s.modBin i f).windows = s.windows ∧
    (s.modBin i f).selection = s.selection ∧ (s.modBin i f).sweep = s.sweep ∧ (s.modBin i f).strays = s.strays ∧
    (s.modBin i f).manifest = s.manifest ∧ (s.modBin i f).branch = s.branch ∧ (s.modBin i f).security = s.security ∧
    (s.modBin i f).courier = s.courier ∧ (s.modBin i f).lastStart = s.lastStart ∧ (s.modBin i f).pending = s.pending := by
  simp [State.modBin]

@[simp] theorem State.modRecord_frame (s : State) (t : Tag) (f : BagRecord → BagRecord) :
    (s.modRecord t f).clock = s.clock ∧ (s.modRecord t f).power = s.power ∧ (s.modRecord t f).marker = s.marker ∧
    (s.modRecord t f).config = s.config ∧ (s.modRecord t f).bins = s.bins ∧ (s.modRecord t f).alloc = s.alloc ∧
    (s.modRecord t f).depositors = s.depositors ∧ (s.modRecord t f).laneA = s.laneA ∧
    (s.modRecord t f).laneB = s.laneB ∧ (s.modRecord t f).diverter = s.diverter ∧
    (s.modRecord t f).levels = s.levels ∧ (s.modRecord t f).windows = s.windows ∧
    (s.modRecord t f).selection = s.selection ∧ (s.modRecord t f).sweep = s.sweep ∧
    (s.modRecord t f).strays = s.strays ∧ (s.modRecord t f).manifest = s.manifest ∧
    (s.modRecord t f).branch = s.branch ∧ (s.modRecord t f).security = s.security ∧
    (s.modRecord t f).courier = s.courier ∧ (s.modRecord t f).lastStart = s.lastStart ∧
    (s.modRecord t f).pending = s.pending := by
  simp [State.modRecord]

@[simp] theorem State.dropRecord_frame (s : State) (t : Tag) :
    (s.dropRecord t).clock = s.clock ∧ (s.dropRecord t).power = s.power ∧ (s.dropRecord t).marker = s.marker ∧
    (s.dropRecord t).config = s.config ∧ (s.dropRecord t).bins = s.bins ∧ (s.dropRecord t).alloc = s.alloc ∧
    (s.dropRecord t).depositors = s.depositors ∧ (s.dropRecord t).laneA = s.laneA ∧
    (s.dropRecord t).laneB = s.laneB ∧ (s.dropRecord t).diverter = s.diverter ∧ (s.dropRecord t).levels = s.levels ∧
    (s.dropRecord t).windows = s.windows ∧ (s.dropRecord t).selection = s.selection ∧
    (s.dropRecord t).sweep = s.sweep ∧ (s.dropRecord t).strays = s.strays ∧ (s.dropRecord t).manifest = s.manifest ∧
    (s.dropRecord t).branch = s.branch ∧ (s.dropRecord t).security = s.security ∧
    (s.dropRecord t).courier = s.courier ∧ (s.dropRecord t).lastStart = s.lastStart ∧
    (s.dropRecord t).pending = s.pending := by
  simp [State.dropRecord]

@[simp] theorem State.modDep_frame (s : State) (i : DepIdx) (f : Depositor → Depositor) :
    (s.modDep i f).clock = s.clock ∧ (s.modDep i f).power = s.power ∧ (s.modDep i f).marker = s.marker ∧
    (s.modDep i f).config = s.config ∧ (s.modDep i f).register = s.register ∧ (s.modDep i f).bins = s.bins ∧
    (s.modDep i f).alloc = s.alloc ∧ (s.modDep i f).laneA = s.laneA ∧ (s.modDep i f).laneB = s.laneB ∧
    (s.modDep i f).diverter = s.diverter ∧ (s.modDep i f).levels = s.levels ∧ (s.modDep i f).windows = s.windows ∧
    (s.modDep i f).selection = s.selection ∧ (s.modDep i f).sweep = s.sweep ∧ (s.modDep i f).strays = s.strays ∧
    (s.modDep i f).manifest = s.manifest ∧ (s.modDep i f).branch = s.branch ∧ (s.modDep i f).security = s.security ∧
    (s.modDep i f).courier = s.courier ∧ (s.modDep i f).lastStart = s.lastStart ∧ (s.modDep i f).pending = s.pending := by
  simp [State.modDep]

@[simp] theorem State.setDep_frame (s : State) (i : DepIdx) (d : Option Depositor) :
    (s.setDep i d).clock = s.clock ∧ (s.setDep i d).power = s.power ∧ (s.setDep i d).marker = s.marker ∧
    (s.setDep i d).config = s.config ∧ (s.setDep i d).register = s.register ∧ (s.setDep i d).bins = s.bins ∧
    (s.setDep i d).alloc = s.alloc ∧ (s.setDep i d).laneA = s.laneA ∧ (s.setDep i d).laneB = s.laneB ∧
    (s.setDep i d).diverter = s.diverter ∧ (s.setDep i d).levels = s.levels ∧ (s.setDep i d).windows = s.windows ∧
    (s.setDep i d).selection = s.selection ∧ (s.setDep i d).sweep = s.sweep ∧ (s.setDep i d).strays = s.strays ∧
    (s.setDep i d).manifest = s.manifest ∧ (s.setDep i d).branch = s.branch ∧ (s.setDep i d).security = s.security ∧
    (s.setDep i d).courier = s.courier ∧ (s.setDep i d).lastStart = s.lastStart ∧ (s.setDep i d).pending = s.pending := by
  simp [State.setDep]

@[simp] theorem State.notify_frame (s : State) (l : Link) (n : Notice) :
    (s.notify l n).clock = s.clock ∧ (s.notify l n).power = s.power ∧ (s.notify l n).marker = s.marker ∧
    (s.notify l n).config = s.config ∧ (s.notify l n).register = s.register ∧ (s.notify l n).bins = s.bins ∧
    (s.notify l n).alloc = s.alloc ∧ (s.notify l n).depositors = s.depositors ∧ (s.notify l n).laneA = s.laneA ∧
    (s.notify l n).laneB = s.laneB ∧ (s.notify l n).diverter = s.diverter ∧ (s.notify l n).levels = s.levels ∧
    (s.notify l n).windows = s.windows ∧ (s.notify l n).selection = s.selection ∧ (s.notify l n).sweep = s.sweep ∧
    (s.notify l n).strays = s.strays ∧ (s.notify l n).manifest = s.manifest ∧
    (s.notify l n).lastStart = s.lastStart ∧ (s.notify l n).pending = s.pending := by
  and_intros <;> simp only [State.notify] <;> split <;> simp

/-! ### Custody -/

@[simp] theorem State.joinBin_frame (s : State) (i : BinIdx) (t : Tag) (mass : Nat) :
    (s.joinBin i t mass).clock = s.clock ∧ (s.joinBin i t mass).power = s.power ∧
    (s.joinBin i t mass).marker = s.marker ∧ (s.joinBin i t mass).config = s.config ∧
    (s.joinBin i t mass).register = s.register ∧ (s.joinBin i t mass).alloc = s.alloc ∧
    (s.joinBin i t mass).depositors = s.depositors ∧ (s.joinBin i t mass).laneA = s.laneA ∧
    (s.joinBin i t mass).laneB = s.laneB ∧ (s.joinBin i t mass).diverter = s.diverter ∧
    (s.joinBin i t mass).levels = s.levels ∧ (s.joinBin i t mass).windows = s.windows ∧
    (s.joinBin i t mass).selection = s.selection ∧ (s.joinBin i t mass).sweep = s.sweep ∧
    (s.joinBin i t mass).strays = s.strays ∧ (s.joinBin i t mass).manifest = s.manifest ∧
    (s.joinBin i t mass).branch = s.branch ∧ (s.joinBin i t mass).security = s.security ∧
    (s.joinBin i t mass).courier = s.courier ∧ (s.joinBin i t mass).lastStart = s.lastStart ∧
    (s.joinBin i t mass).pending = s.pending := by
  simp [State.joinBin]

@[simp] theorem State.leaveBin_frame (s : State) (i : BinIdx) (t : Tag) (mass : Nat) :
    (s.leaveBin i t mass).clock = s.clock ∧ (s.leaveBin i t mass).power = s.power ∧
    (s.leaveBin i t mass).marker = s.marker ∧ (s.leaveBin i t mass).config = s.config ∧
    (s.leaveBin i t mass).register = s.register ∧ (s.leaveBin i t mass).alloc = s.alloc ∧
    (s.leaveBin i t mass).depositors = s.depositors ∧ (s.leaveBin i t mass).laneA = s.laneA ∧
    (s.leaveBin i t mass).laneB = s.laneB ∧ (s.leaveBin i t mass).diverter = s.diverter ∧
    (s.leaveBin i t mass).levels = s.levels ∧ (s.leaveBin i t mass).windows = s.windows ∧
    (s.leaveBin i t mass).selection = s.selection ∧ (s.leaveBin i t mass).sweep = s.sweep ∧
    (s.leaveBin i t mass).strays = s.strays ∧ (s.leaveBin i t mass).manifest = s.manifest ∧
    (s.leaveBin i t mass).branch = s.branch ∧ (s.leaveBin i t mass).security = s.security ∧
    (s.leaveBin i t mass).courier = s.courier ∧ (s.leaveBin i t mass).lastStart = s.lastStart ∧
    (s.leaveBin i t mass).pending = s.pending := by
  simp [State.leaveBin]

@[simp] theorem State.unplace_frame (s : State) (r : BagRecord) :
    (s.unplace r).clock = s.clock ∧ (s.unplace r).power = s.power ∧ (s.unplace r).marker = s.marker ∧
    (s.unplace r).config = s.config ∧ (s.unplace r).register = s.register ∧ (s.unplace r).alloc = s.alloc ∧
    (s.unplace r).depositors = s.depositors ∧ (s.unplace r).laneA = s.laneA ∧ (s.unplace r).laneB = s.laneB ∧
    (s.unplace r).diverter = s.diverter ∧ (s.unplace r).levels = s.levels ∧ (s.unplace r).windows = s.windows ∧
    (s.unplace r).selection = s.selection ∧ (s.unplace r).sweep = s.sweep ∧ (s.unplace r).strays = s.strays ∧
    (s.unplace r).manifest = s.manifest ∧ (s.unplace r).branch = s.branch ∧ (s.unplace r).security = s.security ∧
    (s.unplace r).courier = s.courier ∧ (s.unplace r).lastStart = s.lastStart ∧ (s.unplace r).pending = s.pending := by
  and_intros <;> simp only [State.unplace] <;> split <;> simp

@[simp] theorem State.reserveIn_frame (s : State) (d : DropFacts) (c : BagClass) (i : BinIdx) :
    (s.reserveIn d c i).clock = s.clock ∧ (s.reserveIn d c i).power = s.power ∧
    (s.reserveIn d c i).marker = s.marker ∧ (s.reserveIn d c i).config = s.config ∧
    (s.reserveIn d c i).laneA = s.laneA ∧ (s.reserveIn d c i).laneB = s.laneB ∧
    (s.reserveIn d c i).diverter = s.diverter ∧ (s.reserveIn d c i).levels = s.levels ∧
    (s.reserveIn d c i).windows = s.windows ∧ (s.reserveIn d c i).selection = s.selection ∧
    (s.reserveIn d c i).sweep = s.sweep ∧ (s.reserveIn d c i).manifest = s.manifest ∧
    (s.reserveIn d c i).lastStart = s.lastStart ∧ (s.reserveIn d c i).pending = s.pending := by
  and_intros <;> simp only [State.reserveIn] <;> split <;> simp

@[simp] theorem State.tipRecord_frame (s : State) (t : Tag) :
    (s.tipRecord t).clock = s.clock ∧ (s.tipRecord t).power = s.power ∧ (s.tipRecord t).marker = s.marker ∧
    (s.tipRecord t).config = s.config ∧ (s.tipRecord t).bins = s.bins ∧ (s.tipRecord t).alloc = s.alloc ∧
    (s.tipRecord t).depositors = s.depositors ∧ (s.tipRecord t).laneA = s.laneA ∧ (s.tipRecord t).laneB = s.laneB ∧
    (s.tipRecord t).diverter = s.diverter ∧ (s.tipRecord t).levels = s.levels ∧ (s.tipRecord t).windows = s.windows ∧
    (s.tipRecord t).selection = s.selection ∧ (s.tipRecord t).sweep = s.sweep ∧ (s.tipRecord t).strays = s.strays ∧
    (s.tipRecord t).manifest = s.manifest ∧ (s.tipRecord t).branch = s.branch ∧
    (s.tipRecord t).security = s.security ∧ (s.tipRecord t).courier = s.courier ∧
    (s.tipRecord t).lastStart = s.lastStart ∧ (s.tipRecord t).pending = s.pending := by
  simp [State.tipRecord]

@[simp] theorem State.arriveRecord_frame (s : State) (t : Tag) :
    (s.arriveRecord t).clock = s.clock ∧ (s.arriveRecord t).power = s.power ∧ (s.arriveRecord t).marker = s.marker ∧
    (s.arriveRecord t).config = s.config ∧ (s.arriveRecord t).bins = s.bins ∧ (s.arriveRecord t).alloc = s.alloc ∧
    (s.arriveRecord t).depositors = s.depositors ∧ (s.arriveRecord t).laneA = s.laneA ∧
    (s.arriveRecord t).laneB = s.laneB ∧ (s.arriveRecord t).diverter = s.diverter ∧
    (s.arriveRecord t).levels = s.levels ∧ (s.arriveRecord t).windows = s.windows ∧
    (s.arriveRecord t).selection = s.selection ∧ (s.arriveRecord t).sweep = s.sweep ∧
    (s.arriveRecord t).strays = s.strays ∧ (s.arriveRecord t).manifest = s.manifest ∧
    (s.arriveRecord t).branch = s.branch ∧ (s.arriveRecord t).security = s.security ∧
    (s.arriveRecord t).courier = s.courier ∧ (s.arriveRecord t).lastStart = s.lastStart ∧
    (s.arriveRecord t).pending = s.pending := by
  simp [State.arriveRecord]

@[simp] theorem State.loseRecord_frame (s : State) (r : BagRecord) :
    (s.loseRecord r).clock = s.clock ∧ (s.loseRecord r).power = s.power ∧ (s.loseRecord r).marker = s.marker ∧
    (s.loseRecord r).config = s.config ∧ (s.loseRecord r).alloc = s.alloc ∧
    (s.loseRecord r).depositors = s.depositors ∧ (s.loseRecord r).laneA = s.laneA ∧
    (s.loseRecord r).laneB = s.laneB ∧ (s.loseRecord r).diverter = s.diverter ∧ (s.loseRecord r).levels = s.levels ∧
    (s.loseRecord r).windows = s.windows ∧ (s.loseRecord r).selection = s.selection ∧
    (s.loseRecord r).sweep = s.sweep ∧ (s.loseRecord r).strays = s.strays ∧ (s.loseRecord r).manifest = s.manifest ∧
    (s.loseRecord r).branch = s.branch ∧ (s.loseRecord r).security = s.security ∧
    (s.loseRecord r).courier = s.courier ∧ (s.loseRecord r).lastStart = s.lastStart ∧
    (s.loseRecord r).pending = s.pending := by
  simp [State.loseRecord]

@[simp] theorem State.loseInFlight_frame (s : State) :
    (s.loseInFlight).clock = s.clock ∧ (s.loseInFlight).power = s.power ∧ (s.loseInFlight).marker = s.marker ∧
    (s.loseInFlight).config = s.config ∧ (s.loseInFlight).alloc = s.alloc ∧
    (s.loseInFlight).depositors = s.depositors ∧ (s.loseInFlight).laneA = s.laneA ∧
    (s.loseInFlight).laneB = s.laneB ∧ (s.loseInFlight).diverter = s.diverter ∧ (s.loseInFlight).levels = s.levels ∧
    (s.loseInFlight).windows = s.windows ∧ (s.loseInFlight).selection = s.selection ∧
    (s.loseInFlight).sweep = s.sweep ∧ (s.loseInFlight).strays = s.strays ∧ (s.loseInFlight).manifest = s.manifest ∧
    (s.loseInFlight).branch = s.branch ∧ (s.loseInFlight).security = s.security ∧
    (s.loseInFlight).courier = s.courier ∧ (s.loseInFlight).lastStart = s.lastStart ∧
    (s.loseInFlight).pending = s.pending := by
  simp only [State.loseInFlight]
  exact ⟨foldl_keeps State.loseRecord State.clock (by simp) _ s,
    foldl_keeps State.loseRecord State.power (by simp) _ s,
    foldl_keeps State.loseRecord State.marker (by simp) _ s,
    foldl_keeps State.loseRecord State.config (by simp) _ s,
    foldl_keeps State.loseRecord State.alloc (by simp) _ s,
    foldl_keeps State.loseRecord State.depositors (by simp) _ s,
    foldl_keeps State.loseRecord State.laneA (by simp) _ s,
    foldl_keeps State.loseRecord State.laneB (by simp) _ s,
    foldl_keeps State.loseRecord State.diverter (by simp) _ s,
    foldl_keeps State.loseRecord State.levels (by simp) _ s,
    foldl_keeps State.loseRecord State.windows (by simp) _ s,
    foldl_keeps State.loseRecord State.selection (by simp) _ s,
    foldl_keeps State.loseRecord State.sweep (by simp) _ s,
    foldl_keeps State.loseRecord State.strays (by simp) _ s,
    foldl_keeps State.loseRecord State.manifest (by simp) _ s,
    foldl_keeps State.loseRecord State.branch (by simp) _ s,
    foldl_keeps State.loseRecord State.security (by simp) _ s,
    foldl_keeps State.loseRecord State.courier (by simp) _ s,
    foldl_keeps State.loseRecord State.lastStart (by simp) _ s,
    foldl_keeps State.loseRecord State.pending (by simp) _ s⟩

@[simp] theorem State.restoreCursor_frame (s : State) (r : BagRecord) :
    (s.restoreCursor r).clock = s.clock ∧ (s.restoreCursor r).power = s.power ∧
    (s.restoreCursor r).marker = s.marker ∧ (s.restoreCursor r).config = s.config ∧
    (s.restoreCursor r).register = s.register ∧ (s.restoreCursor r).bins = s.bins ∧
    (s.restoreCursor r).depositors = s.depositors ∧ (s.restoreCursor r).laneA = s.laneA ∧
    (s.restoreCursor r).laneB = s.laneB ∧ (s.restoreCursor r).diverter = s.diverter ∧
    (s.restoreCursor r).levels = s.levels ∧ (s.restoreCursor r).windows = s.windows ∧
    (s.restoreCursor r).selection = s.selection ∧ (s.restoreCursor r).sweep = s.sweep ∧
    (s.restoreCursor r).strays = s.strays ∧ (s.restoreCursor r).manifest = s.manifest ∧
    (s.restoreCursor r).branch = s.branch ∧ (s.restoreCursor r).security = s.security ∧
    (s.restoreCursor r).courier = s.courier ∧ (s.restoreCursor r).lastStart = s.lastStart ∧
    (s.restoreCursor r).pending = s.pending := by
  and_intros <;> simp only [State.restoreCursor] <;> split <;> (try split) <;> simp

@[simp] theorem State.lowerLive_frame (s : State) (i : DepIdx) :
    (s.lowerLive i).clock = s.clock ∧ (s.lowerLive i).power = s.power ∧ (s.lowerLive i).marker = s.marker ∧
    (s.lowerLive i).config = s.config ∧ (s.lowerLive i).register = s.register ∧ (s.lowerLive i).bins = s.bins ∧
    (s.lowerLive i).alloc = s.alloc ∧ (s.lowerLive i).laneA = s.laneA ∧ (s.lowerLive i).laneB = s.laneB ∧
    (s.lowerLive i).diverter = s.diverter ∧ (s.lowerLive i).levels = s.levels ∧ (s.lowerLive i).windows = s.windows ∧
    (s.lowerLive i).selection = s.selection ∧ (s.lowerLive i).sweep = s.sweep ∧ (s.lowerLive i).strays = s.strays ∧
    (s.lowerLive i).manifest = s.manifest ∧ (s.lowerLive i).branch = s.branch ∧
    (s.lowerLive i).security = s.security ∧ (s.lowerLive i).courier = s.courier ∧
    (s.lowerLive i).lastStart = s.lastStart ∧ (s.lowerLive i).pending = s.pending := by
  simp [State.lowerLive]

@[simp] theorem State.rollback_frame (s : State) (r : BagRecord) :
    (s.rollback r).clock = s.clock ∧ (s.rollback r).power = s.power ∧ (s.rollback r).marker = s.marker ∧
    (s.rollback r).config = s.config ∧ (s.rollback r).laneA = s.laneA ∧ (s.rollback r).laneB = s.laneB ∧
    (s.rollback r).diverter = s.diverter ∧ (s.rollback r).levels = s.levels ∧ (s.rollback r).windows = s.windows ∧
    (s.rollback r).selection = s.selection ∧ (s.rollback r).sweep = s.sweep ∧ (s.rollback r).strays = s.strays ∧
    (s.rollback r).manifest = s.manifest ∧ (s.rollback r).branch = s.branch ∧ (s.rollback r).security = s.security ∧
    (s.rollback r).courier = s.courier ∧ (s.rollback r).lastStart = s.lastStart ∧ (s.rollback r).pending = s.pending := by
  simp [State.rollback]

@[simp] theorem State.withdraw_frame (s : State) (r : BagRecord) :
    (s.withdraw r).clock = s.clock ∧ (s.withdraw r).power = s.power ∧ (s.withdraw r).marker = s.marker ∧
    (s.withdraw r).config = s.config ∧ (s.withdraw r).register = s.register ∧ (s.withdraw r).bins = s.bins ∧
    (s.withdraw r).alloc = s.alloc ∧ (s.withdraw r).depositors = s.depositors ∧ (s.withdraw r).laneA = s.laneA ∧
    (s.withdraw r).laneB = s.laneB ∧ (s.withdraw r).diverter = s.diverter ∧ (s.withdraw r).levels = s.levels ∧
    (s.withdraw r).windows = s.windows ∧ (s.withdraw r).selection = s.selection ∧ (s.withdraw r).sweep = s.sweep ∧
    (s.withdraw r).strays = s.strays ∧ (s.withdraw r).branch = s.branch ∧ (s.withdraw r).security = s.security ∧
    (s.withdraw r).courier = s.courier ∧ (s.withdraw r).lastStart = s.lastStart ∧ (s.withdraw r).pending = s.pending := by
  and_intros <;> simp only [State.withdraw] <;> split <;> simp

@[simp] theorem State.judge_frame (s : State) (seen : List Tag) (t : Tag) :
    (s.judge seen t).clock = s.clock ∧ (s.judge seen t).power = s.power ∧ (s.judge seen t).marker = s.marker ∧
    (s.judge seen t).config = s.config ∧ (s.judge seen t).bins = s.bins ∧ (s.judge seen t).alloc = s.alloc ∧
    (s.judge seen t).depositors = s.depositors ∧ (s.judge seen t).laneA = s.laneA ∧
    (s.judge seen t).laneB = s.laneB ∧ (s.judge seen t).diverter = s.diverter ∧ (s.judge seen t).levels = s.levels ∧
    (s.judge seen t).windows = s.windows ∧ (s.judge seen t).selection = s.selection ∧
    (s.judge seen t).sweep = s.sweep ∧ (s.judge seen t).strays = s.strays ∧ (s.judge seen t).branch = s.branch ∧
    (s.judge seen t).security = s.security ∧ (s.judge seen t).courier = s.courier ∧
    (s.judge seen t).lastStart = s.lastStart ∧ (s.judge seen t).pending = s.pending := by
  and_intros <;> simp only [State.judge] <;> (repeat' split) <;> simp

@[simp] theorem State.relocate_frame (s : State) (i : BinIdx) (r : BagRecord) :
    (s.relocate i r).clock = s.clock ∧ (s.relocate i r).power = s.power ∧ (s.relocate i r).marker = s.marker ∧
    (s.relocate i r).config = s.config ∧ (s.relocate i r).alloc = s.alloc ∧
    (s.relocate i r).depositors = s.depositors ∧ (s.relocate i r).laneA = s.laneA ∧
    (s.relocate i r).laneB = s.laneB ∧ (s.relocate i r).diverter = s.diverter ∧ (s.relocate i r).levels = s.levels ∧
    (s.relocate i r).windows = s.windows ∧ (s.relocate i r).selection = s.selection ∧
    (s.relocate i r).sweep = s.sweep ∧ (s.relocate i r).strays = s.strays ∧ (s.relocate i r).manifest = s.manifest ∧
    (s.relocate i r).branch = s.branch ∧ (s.relocate i r).security = s.security ∧
    (s.relocate i r).courier = s.courier ∧ (s.relocate i r).lastStart = s.lastStart ∧
    (s.relocate i r).pending = s.pending := by
  simp [State.relocate]

@[simp] theorem State.foundIn_frame (s : State) (i : BinIdx) (r : BagRecord) :
    (s.foundIn i r).clock = s.clock ∧ (s.foundIn i r).power = s.power ∧ (s.foundIn i r).marker = s.marker ∧
    (s.foundIn i r).config = s.config ∧ (s.foundIn i r).alloc = s.alloc ∧ (s.foundIn i r).depositors = s.depositors ∧
    (s.foundIn i r).laneA = s.laneA ∧ (s.foundIn i r).laneB = s.laneB ∧ (s.foundIn i r).diverter = s.diverter ∧
    (s.foundIn i r).levels = s.levels ∧ (s.foundIn i r).windows = s.windows ∧
    (s.foundIn i r).selection = s.selection ∧ (s.foundIn i r).sweep = s.sweep ∧ (s.foundIn i r).strays = s.strays ∧
    (s.foundIn i r).manifest = s.manifest ∧ (s.foundIn i r).branch = s.branch ∧
    (s.foundIn i r).security = s.security ∧ (s.foundIn i r).courier = s.courier ∧
    (s.foundIn i r).lastStart = s.lastStart ∧ (s.foundIn i r).pending = s.pending := by
  and_intros <;> simp only [State.foundIn] <;> split <;> simp

@[simp] theorem State.takeFound_frame (s : State) (i : BinIdx) (t : Tag) :
    (State.takeFound i s t).clock = s.clock ∧ (State.takeFound i s t).power = s.power ∧
    (State.takeFound i s t).marker = s.marker ∧ (State.takeFound i s t).config = s.config ∧
    (State.takeFound i s t).alloc = s.alloc ∧ (State.takeFound i s t).depositors = s.depositors ∧
    (State.takeFound i s t).laneA = s.laneA ∧ (State.takeFound i s t).laneB = s.laneB ∧
    (State.takeFound i s t).diverter = s.diverter ∧ (State.takeFound i s t).levels = s.levels ∧
    (State.takeFound i s t).windows = s.windows ∧ (State.takeFound i s t).selection = s.selection ∧
    (State.takeFound i s t).sweep = s.sweep ∧ (State.takeFound i s t).strays = s.strays ∧
    (State.takeFound i s t).manifest = s.manifest ∧ (State.takeFound i s t).branch = s.branch ∧
    (State.takeFound i s t).security = s.security ∧ (State.takeFound i s t).courier = s.courier ∧
    (State.takeFound i s t).lastStart = s.lastStart ∧ (State.takeFound i s t).pending = s.pending := by
  and_intros <;> simp only [State.takeFound] <;> split <;> (try split) <;> simp

@[simp] theorem State.takeOther_frame (s : State) (i : BinIdx) (t : Tag) :
    (State.takeOther i s t).clock = s.clock ∧ (State.takeOther i s t).power = s.power ∧
    (State.takeOther i s t).marker = s.marker ∧ (State.takeOther i s t).config = s.config ∧
    (State.takeOther i s t).alloc = s.alloc ∧ (State.takeOther i s t).depositors = s.depositors ∧
    (State.takeOther i s t).laneA = s.laneA ∧ (State.takeOther i s t).laneB = s.laneB ∧
    (State.takeOther i s t).diverter = s.diverter ∧ (State.takeOther i s t).levels = s.levels ∧
    (State.takeOther i s t).windows = s.windows ∧ (State.takeOther i s t).selection = s.selection ∧
    (State.takeOther i s t).sweep = s.sweep ∧ (State.takeOther i s t).strays = s.strays ∧
    (State.takeOther i s t).manifest = s.manifest ∧ (State.takeOther i s t).branch = s.branch ∧
    (State.takeOther i s t).security = s.security ∧ (State.takeOther i s t).courier = s.courier ∧
    (State.takeOther i s t).lastStart = s.lastStart ∧ (State.takeOther i s t).pending = s.pending := by
  and_intros <;> simp only [State.takeOther] <;> split <;> (try split) <;> simp

@[simp] theorem State.takeRest_frame (s : State) (i : BinIdx) (t : Tag) :
    (State.takeRest i s t).clock = s.clock ∧ (State.takeRest i s t).power = s.power ∧
    (State.takeRest i s t).marker = s.marker ∧ (State.takeRest i s t).config = s.config ∧
    (State.takeRest i s t).bins = s.bins ∧ (State.takeRest i s t).alloc = s.alloc ∧
    (State.takeRest i s t).depositors = s.depositors ∧ (State.takeRest i s t).laneA = s.laneA ∧
    (State.takeRest i s t).laneB = s.laneB ∧ (State.takeRest i s t).diverter = s.diverter ∧
    (State.takeRest i s t).levels = s.levels ∧ (State.takeRest i s t).windows = s.windows ∧
    (State.takeRest i s t).selection = s.selection ∧ (State.takeRest i s t).sweep = s.sweep ∧
    (State.takeRest i s t).manifest = s.manifest ∧ (State.takeRest i s t).branch = s.branch ∧
    (State.takeRest i s t).security = s.security ∧ (State.takeRest i s t).courier = s.courier ∧
    (State.takeRest i s t).lastStart = s.lastStart ∧ (State.takeRest i s t).pending = s.pending := by
  and_intros <;> simp only [State.takeRest] <;> split <;> (try split) <;> simp

@[simp] theorem State.checkSteps_frame (s : State) (i : BinIdx) (tags : List Tag) :
    (s.checkSteps i tags).clock = s.clock ∧ (s.checkSteps i tags).power = s.power ∧
    (s.checkSteps i tags).marker = s.marker ∧ (s.checkSteps i tags).config = s.config ∧
    (s.checkSteps i tags).alloc = s.alloc ∧ (s.checkSteps i tags).depositors = s.depositors ∧
    (s.checkSteps i tags).laneA = s.laneA ∧ (s.checkSteps i tags).laneB = s.laneB ∧
    (s.checkSteps i tags).diverter = s.diverter ∧ (s.checkSteps i tags).levels = s.levels ∧
    (s.checkSteps i tags).windows = s.windows ∧ (s.checkSteps i tags).selection = s.selection ∧
    (s.checkSteps i tags).sweep = s.sweep ∧ (s.checkSteps i tags).branch = s.branch ∧
    (s.checkSteps i tags).security = s.security ∧ (s.checkSteps i tags).courier = s.courier ∧
    (s.checkSteps i tags).lastStart = s.lastStart ∧ (s.checkSteps i tags).pending = s.pending := by
  simp only [State.checkSteps]
  exact ⟨by rw [foldl_keeps _ State.clock (by simp), foldl_keeps _ State.clock (by simp), foldl_keeps _ State.clock (by simp),
      foldl_keeps _ State.clock (by simp)],
    by rw [foldl_keeps _ State.power (by simp), foldl_keeps _ State.power (by simp), foldl_keeps _ State.power (by simp),
      foldl_keeps _ State.power (by simp)],
    by rw [foldl_keeps _ State.marker (by simp), foldl_keeps _ State.marker (by simp), foldl_keeps _ State.marker (by simp),
      foldl_keeps _ State.marker (by simp)],
    by rw [foldl_keeps _ State.config (by simp), foldl_keeps _ State.config (by simp), foldl_keeps _ State.config (by simp),
      foldl_keeps _ State.config (by simp)],
    by rw [foldl_keeps _ State.alloc (by simp), foldl_keeps _ State.alloc (by simp), foldl_keeps _ State.alloc (by simp),
      foldl_keeps _ State.alloc (by simp)],
    by rw [foldl_keeps _ State.depositors (by simp), foldl_keeps _ State.depositors (by simp), foldl_keeps _ State.depositors (by simp),
      foldl_keeps _ State.depositors (by simp)],
    by rw [foldl_keeps _ State.laneA (by simp), foldl_keeps _ State.laneA (by simp), foldl_keeps _ State.laneA (by simp),
      foldl_keeps _ State.laneA (by simp)],
    by rw [foldl_keeps _ State.laneB (by simp), foldl_keeps _ State.laneB (by simp), foldl_keeps _ State.laneB (by simp),
      foldl_keeps _ State.laneB (by simp)],
    by rw [foldl_keeps _ State.diverter (by simp), foldl_keeps _ State.diverter (by simp), foldl_keeps _ State.diverter (by simp),
      foldl_keeps _ State.diverter (by simp)],
    by rw [foldl_keeps _ State.levels (by simp), foldl_keeps _ State.levels (by simp), foldl_keeps _ State.levels (by simp),
      foldl_keeps _ State.levels (by simp)],
    by rw [foldl_keeps _ State.windows (by simp), foldl_keeps _ State.windows (by simp), foldl_keeps _ State.windows (by simp),
      foldl_keeps _ State.windows (by simp)],
    by rw [foldl_keeps _ State.selection (by simp), foldl_keeps _ State.selection (by simp), foldl_keeps _ State.selection (by simp),
      foldl_keeps _ State.selection (by simp)],
    by rw [foldl_keeps _ State.sweep (by simp), foldl_keeps _ State.sweep (by simp), foldl_keeps _ State.sweep (by simp),
      foldl_keeps _ State.sweep (by simp)],
    by rw [foldl_keeps _ State.branch (by simp), foldl_keeps _ State.branch (by simp), foldl_keeps _ State.branch (by simp),
      foldl_keeps _ State.branch (by simp)],
    by rw [foldl_keeps _ State.security (by simp), foldl_keeps _ State.security (by simp), foldl_keeps _ State.security (by simp),
      foldl_keeps _ State.security (by simp)],
    by rw [foldl_keeps _ State.courier (by simp), foldl_keeps _ State.courier (by simp), foldl_keeps _ State.courier (by simp),
      foldl_keeps _ State.courier (by simp)],
    by rw [foldl_keeps _ State.lastStart (by simp), foldl_keeps _ State.lastStart (by simp), foldl_keeps _ State.lastStart (by simp),
      foldl_keeps _ State.lastStart (by simp)],
    by rw [foldl_keeps _ State.pending (by simp), foldl_keeps _ State.pending (by simp), foldl_keeps _ State.pending (by simp),
      foldl_keeps _ State.pending (by simp)]⟩

@[simp] theorem State.binCheck_frame (s : State) (i : BinIdx) (seen : List Tag) :
    (s.binCheck i seen).clock = s.clock ∧ (s.binCheck i seen).power = s.power ∧
    (s.binCheck i seen).marker = s.marker ∧ (s.binCheck i seen).config = s.config ∧
    (s.binCheck i seen).alloc = s.alloc ∧ (s.binCheck i seen).depositors = s.depositors ∧
    (s.binCheck i seen).laneA = s.laneA ∧ (s.binCheck i seen).laneB = s.laneB ∧
    (s.binCheck i seen).diverter = s.diverter ∧ (s.binCheck i seen).levels = s.levels ∧
    (s.binCheck i seen).windows = s.windows ∧ (s.binCheck i seen).selection = s.selection ∧
    (s.binCheck i seen).sweep = s.sweep ∧ (s.binCheck i seen).lastStart = s.lastStart ∧
    (s.binCheck i seen).pending = s.pending := by
  and_intros <;> simp only [State.binCheck] <;> split <;> simp

/-! ### LaneOps -/

@[simp] theorem State.startPulse_frame (s : State) (l : LaneId) (o : Actuator) (ms : Nat) :
    (s.startPulse l o ms).clock = s.clock ∧ (s.startPulse l o ms).power = s.power ∧
    (s.startPulse l o ms).marker = s.marker ∧ (s.startPulse l o ms).config = s.config ∧
    (s.startPulse l o ms).register = s.register ∧ (s.startPulse l o ms).bins = s.bins ∧
    (s.startPulse l o ms).alloc = s.alloc ∧ (s.startPulse l o ms).depositors = s.depositors ∧
    (s.startPulse l o ms).diverter = s.diverter ∧ (s.startPulse l o ms).levels = s.levels ∧
    (s.startPulse l o ms).windows = s.windows ∧ (s.startPulse l o ms).selection = s.selection ∧
    (s.startPulse l o ms).sweep = s.sweep ∧ (s.startPulse l o ms).strays = s.strays ∧
    (s.startPulse l o ms).manifest = s.manifest ∧ (s.startPulse l o ms).branch = s.branch ∧
    (s.startPulse l o ms).security = s.security ∧ (s.startPulse l o ms).courier = s.courier ∧
    (s.startPulse l o ms).lastStart = s.lastStart ∧ (s.startPulse l o ms).pending = s.pending := by
  simp [State.startPulse]

@[simp] theorem State.resetOutput_frame (s : State) (l : LaneId) (o : Actuator) :
    (s.resetOutput l o).clock = s.clock ∧ (s.resetOutput l o).power = s.power ∧
    (s.resetOutput l o).marker = s.marker ∧ (s.resetOutput l o).config = s.config ∧
    (s.resetOutput l o).register = s.register ∧ (s.resetOutput l o).bins = s.bins ∧
    (s.resetOutput l o).alloc = s.alloc ∧ (s.resetOutput l o).depositors = s.depositors ∧
    (s.resetOutput l o).diverter = s.diverter ∧ (s.resetOutput l o).levels = s.levels ∧
    (s.resetOutput l o).windows = s.windows ∧ (s.resetOutput l o).selection = s.selection ∧
    (s.resetOutput l o).sweep = s.sweep ∧ (s.resetOutput l o).strays = s.strays ∧
    (s.resetOutput l o).manifest = s.manifest ∧ (s.resetOutput l o).branch = s.branch ∧
    (s.resetOutput l o).security = s.security ∧ (s.resetOutput l o).courier = s.courier ∧
    (s.resetOutput l o).lastStart = s.lastStart ∧ (s.resetOutput l o).pending = s.pending := by
  simp [State.resetOutput]

@[simp] theorem State.resetOutputs_frame (s : State) (l : LaneId) :
    (s.resetOutputs l).clock = s.clock ∧ (s.resetOutputs l).power = s.power ∧ (s.resetOutputs l).marker = s.marker ∧
    (s.resetOutputs l).config = s.config ∧ (s.resetOutputs l).register = s.register ∧
    (s.resetOutputs l).bins = s.bins ∧ (s.resetOutputs l).alloc = s.alloc ∧
    (s.resetOutputs l).depositors = s.depositors ∧ (s.resetOutputs l).diverter = s.diverter ∧
    (s.resetOutputs l).levels = s.levels ∧ (s.resetOutputs l).windows = s.windows ∧
    (s.resetOutputs l).selection = s.selection ∧ (s.resetOutputs l).sweep = s.sweep ∧
    (s.resetOutputs l).strays = s.strays ∧ (s.resetOutputs l).manifest = s.manifest ∧
    (s.resetOutputs l).branch = s.branch ∧ (s.resetOutputs l).security = s.security ∧
    (s.resetOutputs l).courier = s.courier ∧ (s.resetOutputs l).lastStart = s.lastStart ∧
    (s.resetOutputs l).pending = s.pending := by
  and_intros <;> simp only [State.resetOutputs] <;> split <;> simp

@[simp] theorem State.beginLock_frame (s : State) (l : LaneId) (wantLocked : Bool) :
    (s.beginLock l wantLocked).clock = s.clock ∧ (s.beginLock l wantLocked).power = s.power ∧
    (s.beginLock l wantLocked).marker = s.marker ∧ (s.beginLock l wantLocked).config = s.config ∧
    (s.beginLock l wantLocked).register = s.register ∧ (s.beginLock l wantLocked).bins = s.bins ∧
    (s.beginLock l wantLocked).alloc = s.alloc ∧ (s.beginLock l wantLocked).depositors = s.depositors ∧
    (s.beginLock l wantLocked).diverter = s.diverter ∧ (s.beginLock l wantLocked).levels = s.levels ∧
    (s.beginLock l wantLocked).windows = s.windows ∧ (s.beginLock l wantLocked).selection = s.selection ∧
    (s.beginLock l wantLocked).sweep = s.sweep ∧ (s.beginLock l wantLocked).strays = s.strays ∧
    (s.beginLock l wantLocked).manifest = s.manifest ∧ (s.beginLock l wantLocked).branch = s.branch ∧
    (s.beginLock l wantLocked).security = s.security ∧ (s.beginLock l wantLocked).courier = s.courier ∧
    (s.beginLock l wantLocked).lastStart = s.lastStart ∧ (s.beginLock l wantLocked).pending = s.pending := by
  simp [State.beginLock]

@[simp] theorem State.keepShut_frame (s : State) (l : LaneId) :
    (s.keepShut l).clock = s.clock ∧ (s.keepShut l).power = s.power ∧ (s.keepShut l).marker = s.marker ∧
    (s.keepShut l).config = s.config ∧ (s.keepShut l).register = s.register ∧ (s.keepShut l).bins = s.bins ∧
    (s.keepShut l).alloc = s.alloc ∧ (s.keepShut l).depositors = s.depositors ∧
    (s.keepShut l).diverter = s.diverter ∧ (s.keepShut l).levels = s.levels ∧ (s.keepShut l).windows = s.windows ∧
    (s.keepShut l).selection = s.selection ∧ (s.keepShut l).sweep = s.sweep ∧ (s.keepShut l).strays = s.strays ∧
    (s.keepShut l).manifest = s.manifest ∧ (s.keepShut l).branch = s.branch ∧ (s.keepShut l).security = s.security ∧
    (s.keepShut l).courier = s.courier ∧ (s.keepShut l).lastStart = s.lastStart ∧ (s.keepShut l).pending = s.pending := by
  and_intros <;> simp only [State.keepShut] <;> split <;> simp

@[simp] theorem State.rest_frame (s : State) (l : LaneId) :
    (s.rest l).clock = s.clock ∧ (s.rest l).power = s.power ∧ (s.rest l).marker = s.marker ∧
    (s.rest l).config = s.config ∧ (s.rest l).register = s.register ∧ (s.rest l).bins = s.bins ∧
    (s.rest l).alloc = s.alloc ∧ (s.rest l).depositors = s.depositors ∧ (s.rest l).diverter = s.diverter ∧
    (s.rest l).levels = s.levels ∧ (s.rest l).windows = s.windows ∧ (s.rest l).selection = s.selection ∧
    (s.rest l).sweep = s.sweep ∧ (s.rest l).strays = s.strays ∧ (s.rest l).manifest = s.manifest ∧
    (s.rest l).branch = s.branch ∧ (s.rest l).security = s.security ∧ (s.rest l).courier = s.courier ∧
    (s.rest l).lastStart = s.lastStart ∧ (s.rest l).pending = s.pending := by
  simp [State.rest]

@[simp] theorem State.goClosed_frame (s : State) (l : LaneId) :
    (s.goClosed l).clock = s.clock ∧ (s.goClosed l).power = s.power ∧ (s.goClosed l).marker = s.marker ∧
    (s.goClosed l).config = s.config ∧ (s.goClosed l).register = s.register ∧ (s.goClosed l).bins = s.bins ∧
    (s.goClosed l).alloc = s.alloc ∧ (s.goClosed l).depositors = s.depositors ∧
    (s.goClosed l).diverter = s.diverter ∧ (s.goClosed l).levels = s.levels ∧ (s.goClosed l).windows = s.windows ∧
    (s.goClosed l).selection = s.selection ∧ (s.goClosed l).sweep = s.sweep ∧ (s.goClosed l).strays = s.strays ∧
    (s.goClosed l).manifest = s.manifest ∧ (s.goClosed l).branch = s.branch ∧ (s.goClosed l).security = s.security ∧
    (s.goClosed l).courier = s.courier ∧ (s.goClosed l).lastStart = s.lastStart ∧ (s.goClosed l).pending = s.pending := by
  simp [State.goClosed]

@[simp] theorem State.jam_frame (s : State) (l : LaneId) :
    (s.jam l).clock = s.clock ∧ (s.jam l).power = s.power ∧ (s.jam l).marker = s.marker ∧
    (s.jam l).config = s.config ∧ (s.jam l).register = s.register ∧ (s.jam l).bins = s.bins ∧
    (s.jam l).alloc = s.alloc ∧ (s.jam l).depositors = s.depositors ∧ (s.jam l).diverter = s.diverter ∧
    (s.jam l).levels = s.levels ∧ (s.jam l).windows = s.windows ∧ (s.jam l).selection = s.selection ∧
    (s.jam l).sweep = s.sweep ∧ (s.jam l).strays = s.strays ∧ (s.jam l).manifest = s.manifest ∧
    (s.jam l).lastStart = s.lastStart ∧ (s.jam l).pending = s.pending := by
  simp [State.jam]

@[simp] theorem State.grantTo_frame (s : State) (l : LaneId) :
    (s.grantTo l).clock = s.clock ∧ (s.grantTo l).power = s.power ∧ (s.grantTo l).marker = s.marker ∧
    (s.grantTo l).config = s.config ∧ (s.grantTo l).register = s.register ∧ (s.grantTo l).bins = s.bins ∧
    (s.grantTo l).alloc = s.alloc ∧ (s.grantTo l).depositors = s.depositors ∧ (s.grantTo l).levels = s.levels ∧
    (s.grantTo l).windows = s.windows ∧ (s.grantTo l).selection = s.selection ∧ (s.grantTo l).sweep = s.sweep ∧
    (s.grantTo l).strays = s.strays ∧ (s.grantTo l).manifest = s.manifest ∧ (s.grantTo l).branch = s.branch ∧
    (s.grantTo l).security = s.security ∧ (s.grantTo l).courier = s.courier ∧ (s.grantTo l).lastStart = s.lastStart ∧
    (s.grantTo l).pending = s.pending := by
  simp [State.grantTo]

@[simp] theorem State.requestDiverter_frame (s : State) (l : LaneId) :
    (s.requestDiverter l).clock = s.clock ∧ (s.requestDiverter l).power = s.power ∧
    (s.requestDiverter l).marker = s.marker ∧ (s.requestDiverter l).config = s.config ∧
    (s.requestDiverter l).register = s.register ∧ (s.requestDiverter l).bins = s.bins ∧
    (s.requestDiverter l).alloc = s.alloc ∧ (s.requestDiverter l).depositors = s.depositors ∧
    (s.requestDiverter l).levels = s.levels ∧ (s.requestDiverter l).windows = s.windows ∧
    (s.requestDiverter l).selection = s.selection ∧ (s.requestDiverter l).sweep = s.sweep ∧
    (s.requestDiverter l).strays = s.strays ∧ (s.requestDiverter l).manifest = s.manifest ∧
    (s.requestDiverter l).branch = s.branch ∧ (s.requestDiverter l).security = s.security ∧
    (s.requestDiverter l).courier = s.courier ∧ (s.requestDiverter l).lastStart = s.lastStart ∧
    (s.requestDiverter l).pending = s.pending := by
  and_intros <;> simp only [State.requestDiverter] <;> split <;> simp

@[simp] theorem State.releaseGrant_frame (s : State) (l : LaneId) :
    (s.releaseGrant l).clock = s.clock ∧ (s.releaseGrant l).power = s.power ∧ (s.releaseGrant l).marker = s.marker ∧
    (s.releaseGrant l).config = s.config ∧ (s.releaseGrant l).register = s.register ∧
    (s.releaseGrant l).bins = s.bins ∧ (s.releaseGrant l).alloc = s.alloc ∧
    (s.releaseGrant l).depositors = s.depositors ∧ (s.releaseGrant l).levels = s.levels ∧
    (s.releaseGrant l).windows = s.windows ∧ (s.releaseGrant l).selection = s.selection ∧
    (s.releaseGrant l).sweep = s.sweep ∧ (s.releaseGrant l).strays = s.strays ∧
    (s.releaseGrant l).manifest = s.manifest ∧ (s.releaseGrant l).branch = s.branch ∧
    (s.releaseGrant l).security = s.security ∧ (s.releaseGrant l).courier = s.courier ∧
    (s.releaseGrant l).lastStart = s.lastStart ∧ (s.releaseGrant l).pending = s.pending := by
  and_intros <;> simp only [State.releaseGrant] <;> split <;> (try split) <;> simp

@[simp] theorem State.withdrawRequest_frame (s : State) (l : LaneId) :
    (s.withdrawRequest l).clock = s.clock ∧ (s.withdrawRequest l).power = s.power ∧
    (s.withdrawRequest l).marker = s.marker ∧ (s.withdrawRequest l).config = s.config ∧
    (s.withdrawRequest l).register = s.register ∧ (s.withdrawRequest l).bins = s.bins ∧
    (s.withdrawRequest l).alloc = s.alloc ∧ (s.withdrawRequest l).depositors = s.depositors ∧
    (s.withdrawRequest l).laneA = s.laneA ∧ (s.withdrawRequest l).laneB = s.laneB ∧
    (s.withdrawRequest l).levels = s.levels ∧ (s.withdrawRequest l).windows = s.windows ∧
    (s.withdrawRequest l).selection = s.selection ∧ (s.withdrawRequest l).sweep = s.sweep ∧
    (s.withdrawRequest l).strays = s.strays ∧ (s.withdrawRequest l).manifest = s.manifest ∧
    (s.withdrawRequest l).branch = s.branch ∧ (s.withdrawRequest l).security = s.security ∧
    (s.withdrawRequest l).courier = s.courier ∧ (s.withdrawRequest l).lastStart = s.lastStart ∧
    (s.withdrawRequest l).pending = s.pending := by
  simp [State.withdrawRequest]

@[simp] theorem State.enterTipWait_frame (s : State) (l : LaneId) :
    (s.enterTipWait l).clock = s.clock ∧ (s.enterTipWait l).power = s.power ∧ (s.enterTipWait l).marker = s.marker ∧
    (s.enterTipWait l).config = s.config ∧ (s.enterTipWait l).register = s.register ∧
    (s.enterTipWait l).bins = s.bins ∧ (s.enterTipWait l).alloc = s.alloc ∧
    (s.enterTipWait l).depositors = s.depositors ∧ (s.enterTipWait l).levels = s.levels ∧
    (s.enterTipWait l).windows = s.windows ∧ (s.enterTipWait l).selection = s.selection ∧
    (s.enterTipWait l).sweep = s.sweep ∧ (s.enterTipWait l).strays = s.strays ∧
    (s.enterTipWait l).manifest = s.manifest ∧ (s.enterTipWait l).branch = s.branch ∧
    (s.enterTipWait l).security = s.security ∧ (s.enterTipWait l).courier = s.courier ∧
    (s.enterTipWait l).lastStart = s.lastStart ∧ (s.enterTipWait l).pending = s.pending := by
  simp [State.enterTipWait]

@[simp] theorem State.beginReturnPulse_frame (s : State) (l : LaneId) :
    (s.beginReturnPulse l).clock = s.clock ∧ (s.beginReturnPulse l).power = s.power ∧
    (s.beginReturnPulse l).marker = s.marker ∧ (s.beginReturnPulse l).config = s.config ∧
    (s.beginReturnPulse l).register = s.register ∧ (s.beginReturnPulse l).bins = s.bins ∧
    (s.beginReturnPulse l).alloc = s.alloc ∧ (s.beginReturnPulse l).depositors = s.depositors ∧
    (s.beginReturnPulse l).diverter = s.diverter ∧ (s.beginReturnPulse l).levels = s.levels ∧
    (s.beginReturnPulse l).windows = s.windows ∧ (s.beginReturnPulse l).selection = s.selection ∧
    (s.beginReturnPulse l).sweep = s.sweep ∧ (s.beginReturnPulse l).strays = s.strays ∧
    (s.beginReturnPulse l).manifest = s.manifest ∧ (s.beginReturnPulse l).branch = s.branch ∧
    (s.beginReturnPulse l).security = s.security ∧ (s.beginReturnPulse l).courier = s.courier ∧
    (s.beginReturnPulse l).lastStart = s.lastStart ∧ (s.beginReturnPulse l).pending = s.pending := by
  simp [State.beginReturnPulse]

@[simp] theorem State.enterReturn_frame (s : State) (l : LaneId) (why : ReturnReason) :
    (s.enterReturn l why).clock = s.clock ∧ (s.enterReturn l why).power = s.power ∧
    (s.enterReturn l why).marker = s.marker ∧ (s.enterReturn l why).config = s.config ∧
    (s.enterReturn l why).register = s.register ∧ (s.enterReturn l why).bins = s.bins ∧
    (s.enterReturn l why).alloc = s.alloc ∧ (s.enterReturn l why).depositors = s.depositors ∧
    (s.enterReturn l why).diverter = s.diverter ∧ (s.enterReturn l why).levels = s.levels ∧
    (s.enterReturn l why).windows = s.windows ∧ (s.enterReturn l why).selection = s.selection ∧
    (s.enterReturn l why).sweep = s.sweep ∧ (s.enterReturn l why).strays = s.strays ∧
    (s.enterReturn l why).manifest = s.manifest ∧ (s.enterReturn l why).branch = s.branch ∧
    (s.enterReturn l why).security = s.security ∧ (s.enterReturn l why).courier = s.courier ∧
    (s.enterReturn l why).lastStart = s.lastStart ∧ (s.enterReturn l why).pending = s.pending := by
  and_intros <;> simp only [State.enterReturn] <;> split <;> simp

@[simp] theorem State.enterReturnWait_frame (s : State) (l : LaneId) (why : Option ReturnReason) :
    (s.enterReturnWait l why).clock = s.clock ∧ (s.enterReturnWait l why).power = s.power ∧
    (s.enterReturnWait l why).marker = s.marker ∧ (s.enterReturnWait l why).config = s.config ∧
    (s.enterReturnWait l why).register = s.register ∧ (s.enterReturnWait l why).bins = s.bins ∧
    (s.enterReturnWait l why).alloc = s.alloc ∧ (s.enterReturnWait l why).depositors = s.depositors ∧
    (s.enterReturnWait l why).diverter = s.diverter ∧ (s.enterReturnWait l why).levels = s.levels ∧
    (s.enterReturnWait l why).windows = s.windows ∧ (s.enterReturnWait l why).selection = s.selection ∧
    (s.enterReturnWait l why).sweep = s.sweep ∧ (s.enterReturnWait l why).strays = s.strays ∧
    (s.enterReturnWait l why).manifest = s.manifest ∧ (s.enterReturnWait l why).branch = s.branch ∧
    (s.enterReturnWait l why).security = s.security ∧ (s.enterReturnWait l why).courier = s.courier ∧
    (s.enterReturnWait l why).lastStart = s.lastStart ∧ (s.enterReturnWait l why).pending = s.pending := by
  simp [State.enterReturnWait]

@[simp] theorem State.enterWeigh_frame (s : State) (l : LaneId) :
    (s.enterWeigh l).clock = s.clock ∧ (s.enterWeigh l).power = s.power ∧ (s.enterWeigh l).marker = s.marker ∧
    (s.enterWeigh l).config = s.config ∧ (s.enterWeigh l).register = s.register ∧ (s.enterWeigh l).bins = s.bins ∧
    (s.enterWeigh l).alloc = s.alloc ∧ (s.enterWeigh l).depositors = s.depositors ∧
    (s.enterWeigh l).diverter = s.diverter ∧ (s.enterWeigh l).levels = s.levels ∧
    (s.enterWeigh l).windows = s.windows ∧ (s.enterWeigh l).selection = s.selection ∧
    (s.enterWeigh l).sweep = s.sweep ∧ (s.enterWeigh l).strays = s.strays ∧ (s.enterWeigh l).manifest = s.manifest ∧
    (s.enterWeigh l).branch = s.branch ∧ (s.enterWeigh l).security = s.security ∧
    (s.enterWeigh l).courier = s.courier ∧ (s.enterWeigh l).lastStart = s.lastStart ∧
    (s.enterWeigh l).pending = s.pending := by
  simp [State.enterWeigh]

@[simp] theorem State.resumeAtWeigh_frame (s : State) (l : LaneId) (r : BagRecord) :
    (s.resumeAtWeigh l r).clock = s.clock ∧ (s.resumeAtWeigh l r).power = s.power ∧
    (s.resumeAtWeigh l r).marker = s.marker ∧ (s.resumeAtWeigh l r).config = s.config ∧
    (s.resumeAtWeigh l r).bins = s.bins ∧ (s.resumeAtWeigh l r).alloc = s.alloc ∧
    (s.resumeAtWeigh l r).depositors = s.depositors ∧ (s.resumeAtWeigh l r).diverter = s.diverter ∧
    (s.resumeAtWeigh l r).levels = s.levels ∧ (s.resumeAtWeigh l r).windows = s.windows ∧
    (s.resumeAtWeigh l r).selection = s.selection ∧ (s.resumeAtWeigh l r).sweep = s.sweep ∧
    (s.resumeAtWeigh l r).strays = s.strays ∧ (s.resumeAtWeigh l r).manifest = s.manifest ∧
    (s.resumeAtWeigh l r).branch = s.branch ∧ (s.resumeAtWeigh l r).security = s.security ∧
    (s.resumeAtWeigh l r).courier = s.courier ∧ (s.resumeAtWeigh l r).lastStart = s.lastStart ∧
    (s.resumeAtWeigh l r).pending = s.pending := by
  simp [State.resumeAtWeigh]

@[simp] theorem State.openingCheck_frame (s : State) (l : LaneId) :
    (s.openingCheck l).clock = s.clock ∧ (s.openingCheck l).power = s.power ∧ (s.openingCheck l).marker = s.marker ∧
    (s.openingCheck l).config = s.config ∧ (s.openingCheck l).diverter = s.diverter ∧
    (s.openingCheck l).levels = s.levels ∧ (s.openingCheck l).windows = s.windows ∧
    (s.openingCheck l).selection = s.selection ∧ (s.openingCheck l).sweep = s.sweep ∧
    (s.openingCheck l).strays = s.strays ∧ (s.openingCheck l).manifest = s.manifest ∧
    (s.openingCheck l).branch = s.branch ∧ (s.openingCheck l).security = s.security ∧
    (s.openingCheck l).courier = s.courier ∧ (s.openingCheck l).lastStart = s.lastStart ∧
    (s.openingCheck l).pending = s.pending := by
  and_intros <;> simp only [State.openingCheck] <;> split <;> (try split) <;> simp

@[simp] theorem State.removeReasons_frame (s : State) (l : LaneId) (f : CloseSet → CloseSet) :
    (s.removeReasons l f).clock = s.clock ∧ (s.removeReasons l f).power = s.power ∧
    (s.removeReasons l f).marker = s.marker ∧ (s.removeReasons l f).config = s.config ∧
    (s.removeReasons l f).diverter = s.diverter ∧ (s.removeReasons l f).levels = s.levels ∧
    (s.removeReasons l f).windows = s.windows ∧ (s.removeReasons l f).selection = s.selection ∧
    (s.removeReasons l f).sweep = s.sweep ∧ (s.removeReasons l f).strays = s.strays ∧
    (s.removeReasons l f).manifest = s.manifest ∧ (s.removeReasons l f).branch = s.branch ∧
    (s.removeReasons l f).security = s.security ∧ (s.removeReasons l f).courier = s.courier ∧
    (s.removeReasons l f).lastStart = s.lastStart ∧ (s.removeReasons l f).pending = s.pending := by
  and_intros <;> simp only [State.removeReasons] <;> (repeat' split) <;> simp

@[simp] theorem State.addReason_frame (s : State) (l : LaneId) (f : CloseSet → CloseSet) :
    (s.addReason l f).clock = s.clock ∧ (s.addReason l f).power = s.power ∧ (s.addReason l f).marker = s.marker ∧
    (s.addReason l f).config = s.config ∧ (s.addReason l f).register = s.register ∧ (s.addReason l f).bins = s.bins ∧
    (s.addReason l f).alloc = s.alloc ∧ (s.addReason l f).depositors = s.depositors ∧
    (s.addReason l f).diverter = s.diverter ∧ (s.addReason l f).levels = s.levels ∧
    (s.addReason l f).windows = s.windows ∧ (s.addReason l f).selection = s.selection ∧
    (s.addReason l f).sweep = s.sweep ∧ (s.addReason l f).strays = s.strays ∧
    (s.addReason l f).manifest = s.manifest ∧ (s.addReason l f).branch = s.branch ∧
    (s.addReason l f).security = s.security ∧ (s.addReason l f).courier = s.courier ∧
    (s.addReason l f).lastStart = s.lastStart ∧ (s.addReason l f).pending = s.pending := by
  and_intros <;> simp only [State.addReason] <;> split <;> (try split) <;> simp

@[simp] theorem State.closeAtOnce_frame (s : State) (l : LaneId) (forced : Bool) :
    (s.closeAtOnce l forced).clock = s.clock ∧ (s.closeAtOnce l forced).power = s.power ∧
    (s.closeAtOnce l forced).marker = s.marker ∧ (s.closeAtOnce l forced).config = s.config ∧
    (s.closeAtOnce l forced).levels = s.levels ∧ (s.closeAtOnce l forced).windows = s.windows ∧
    (s.closeAtOnce l forced).selection = s.selection ∧ (s.closeAtOnce l forced).sweep = s.sweep ∧
    (s.closeAtOnce l forced).strays = s.strays ∧ (s.closeAtOnce l forced).manifest = s.manifest ∧
    (s.closeAtOnce l forced).branch = s.branch ∧ (s.closeAtOnce l forced).security = s.security ∧
    (s.closeAtOnce l forced).courier = s.courier ∧ (s.closeAtOnce l forced).lastStart = s.lastStart ∧
    (s.closeAtOnce l forced).pending = s.pending := by
  and_intros <;> simp only [State.closeAtOnce] <;> (repeat' split) <;> simp

@[simp] theorem State.forceDrawer_frame (s : State) (l : LaneId) :
    (s.forceDrawer l).clock = s.clock ∧ (s.forceDrawer l).power = s.power ∧ (s.forceDrawer l).marker = s.marker ∧
    (s.forceDrawer l).config = s.config ∧ (s.forceDrawer l).levels = s.levels ∧
    (s.forceDrawer l).windows = s.windows ∧ (s.forceDrawer l).selection = s.selection ∧
    (s.forceDrawer l).sweep = s.sweep ∧ (s.forceDrawer l).strays = s.strays ∧
    (s.forceDrawer l).manifest = s.manifest ∧ (s.forceDrawer l).lastStart = s.lastStart ∧
    (s.forceDrawer l).pending = s.pending := by
  simp [State.forceDrawer]

@[simp] theorem State.takeInputs_frame (s : State) (l : LaneId) (i : LaneInputs) :
    (s.takeInputs l i).clock = s.clock ∧ (s.takeInputs l i).power = s.power ∧ (s.takeInputs l i).marker = s.marker ∧
    (s.takeInputs l i).config = s.config ∧ (s.takeInputs l i).levels = s.levels ∧
    (s.takeInputs l i).windows = s.windows ∧ (s.takeInputs l i).selection = s.selection ∧
    (s.takeInputs l i).sweep = s.sweep ∧ (s.takeInputs l i).strays = s.strays ∧
    (s.takeInputs l i).manifest = s.manifest ∧ (s.takeInputs l i).lastStart = s.lastStart ∧
    (s.takeInputs l i).pending = s.pending := by
  and_intros <;> simp only [State.takeInputs] <;> split <;> simp

@[simp] theorem State.noteHold_frame (s : State) (v : Verdict) :
    (s.noteHold v).clock = s.clock ∧ (s.noteHold v).power = s.power ∧ (s.noteHold v).marker = s.marker ∧
    (s.noteHold v).config = s.config ∧ (s.noteHold v).register = s.register ∧ (s.noteHold v).bins = s.bins ∧
    (s.noteHold v).alloc = s.alloc ∧ (s.noteHold v).depositors = s.depositors ∧ (s.noteHold v).laneA = s.laneA ∧
    (s.noteHold v).laneB = s.laneB ∧ (s.noteHold v).diverter = s.diverter ∧ (s.noteHold v).levels = s.levels ∧
    (s.noteHold v).windows = s.windows ∧ (s.noteHold v).selection = s.selection ∧ (s.noteHold v).sweep = s.sweep ∧
    (s.noteHold v).strays = s.strays ∧ (s.noteHold v).manifest = s.manifest ∧
    (s.noteHold v).lastStart = s.lastStart ∧ (s.noteHold v).pending = s.pending := by
  and_intros <;> simp only [State.noteHold] <;> split <;> simp

/-! ### Check -/

/-- A reservation that is made (R6) leaves these fields as they were. -/
theorem State.reserve_frame {s t : State} {d : DropFacts} (h : s.reserve d = .ok t) :
    t.clock = s.clock ∧ t.power = s.power ∧ t.marker = s.marker ∧ t.config = s.config ∧ t.laneA = s.laneA ∧
    t.laneB = s.laneB ∧ t.diverter = s.diverter ∧ t.levels = s.levels ∧ t.windows = s.windows ∧
    t.selection = s.selection ∧ t.sweep = s.sweep ∧ t.manifest = s.manifest ∧ t.lastStart = s.lastStart ∧
    t.pending = s.pending := by
  simp only [State.reserve] at h
  split at h
  · exact absurd h (by simp)
  · split at h
    · exact absurd h (by simp)
    · split at h
      · exact absurd h (by simp)
      · split at h
        · exact absurd h (by simp)
        · rename_i c i _
          cases h
          simp

@[simp] theorem State.replaceCapture_frame (s : State) (r : BagRecord) (mass : Nat) (a : AcceptanceAnswer) :
    (s.replaceCapture r mass a).clock = s.clock ∧ (s.replaceCapture r mass a).power = s.power ∧
    (s.replaceCapture r mass a).marker = s.marker ∧ (s.replaceCapture r mass a).config = s.config ∧
    (s.replaceCapture r mass a).alloc = s.alloc ∧ (s.replaceCapture r mass a).depositors = s.depositors ∧
    (s.replaceCapture r mass a).laneA = s.laneA ∧ (s.replaceCapture r mass a).laneB = s.laneB ∧
    (s.replaceCapture r mass a).diverter = s.diverter ∧ (s.replaceCapture r mass a).levels = s.levels ∧
    (s.replaceCapture r mass a).windows = s.windows ∧ (s.replaceCapture r mass a).selection = s.selection ∧
    (s.replaceCapture r mass a).sweep = s.sweep ∧ (s.replaceCapture r mass a).strays = s.strays ∧
    (s.replaceCapture r mass a).manifest = s.manifest ∧ (s.replaceCapture r mass a).branch = s.branch ∧
    (s.replaceCapture r mass a).security = s.security ∧ (s.replaceCapture r mass a).courier = s.courier ∧
    (s.replaceCapture r mass a).lastStart = s.lastStart ∧ (s.replaceCapture r mass a).pending = s.pending := by
  and_intros <;> simp only [State.replaceCapture] <;> split <;> simp

@[simp] theorem State.recheck_frame (s : State) (l : LaneId) (x : Session) (r : BagRecord) (capture : Reading) :
    (s.recheck l x r capture).clock = s.clock ∧ (s.recheck l x r capture).power = s.power ∧
    (s.recheck l x r capture).marker = s.marker ∧ (s.recheck l x r capture).config = s.config ∧
    (s.recheck l x r capture).levels = s.levels ∧ (s.recheck l x r capture).windows = s.windows ∧
    (s.recheck l x r capture).selection = s.selection ∧ (s.recheck l x r capture).sweep = s.sweep ∧
    (s.recheck l x r capture).strays = s.strays ∧ (s.recheck l x r capture).manifest = s.manifest ∧
    (s.recheck l x r capture).lastStart = s.lastStart ∧ (s.recheck l x r capture).pending = s.pending := by
  and_intros <;> simp only [State.recheck] <;> split <;> simp

@[simp] theorem State.beginTip_frame (s : State) (l : LaneId) (r : BagRecord) :
    (s.beginTip l r).clock = s.clock ∧ (s.beginTip l r).power = s.power ∧ (s.beginTip l r).marker = s.marker ∧
    (s.beginTip l r).config = s.config ∧ (s.beginTip l r).bins = s.bins ∧ (s.beginTip l r).alloc = s.alloc ∧
    (s.beginTip l r).depositors = s.depositors ∧ (s.beginTip l r).diverter = s.diverter ∧
    (s.beginTip l r).levels = s.levels ∧ (s.beginTip l r).windows = s.windows ∧
    (s.beginTip l r).selection = s.selection ∧ (s.beginTip l r).sweep = s.sweep ∧
    (s.beginTip l r).strays = s.strays ∧ (s.beginTip l r).manifest = s.manifest ∧
    (s.beginTip l r).branch = s.branch ∧ (s.beginTip l r).security = s.security ∧
    (s.beginTip l r).courier = s.courier ∧ (s.beginTip l r).lastStart = s.lastStart ∧
    (s.beginTip l r).pending = s.pending := by
  simp [State.beginTip]

@[simp] theorem State.failTip_frame (s : State) (l : LaneId) (r : BagRecord) :
    (s.failTip l r).clock = s.clock ∧ (s.failTip l r).power = s.power ∧ (s.failTip l r).marker = s.marker ∧
    (s.failTip l r).config = s.config ∧ (s.failTip l r).levels = s.levels ∧ (s.failTip l r).windows = s.windows ∧
    (s.failTip l r).selection = s.selection ∧ (s.failTip l r).sweep = s.sweep ∧ (s.failTip l r).strays = s.strays ∧
    (s.failTip l r).manifest = s.manifest ∧ (s.failTip l r).lastStart = s.lastStart ∧
    (s.failTip l r).pending = s.pending := by
  simp [State.failTip]

@[simp] theorem State.endRoute_frame (s : State) (l : LaneId) :
    (s.endRoute l).clock = s.clock ∧ (s.endRoute l).power = s.power ∧ (s.endRoute l).marker = s.marker ∧
    (s.endRoute l).config = s.config ∧ (s.endRoute l).diverter = s.diverter ∧ (s.endRoute l).levels = s.levels ∧
    (s.endRoute l).windows = s.windows ∧ (s.endRoute l).selection = s.selection ∧ (s.endRoute l).sweep = s.sweep ∧
    (s.endRoute l).strays = s.strays ∧ (s.endRoute l).manifest = s.manifest ∧ (s.endRoute l).branch = s.branch ∧
    (s.endRoute l).security = s.security ∧ (s.endRoute l).courier = s.courier ∧
    (s.endRoute l).lastStart = s.lastStart ∧ (s.endRoute l).pending = s.pending := by
  and_intros <;> simp only [State.endRoute] <;> split <;> (try split) <;> simp

@[simp] theorem State.giveReceipt_frame (s : State) (l : LaneId) (r : BagRecord) (printerFault : Bool) :
    (s.giveReceipt l r printerFault).clock = s.clock ∧ (s.giveReceipt l r printerFault).power = s.power ∧
    (s.giveReceipt l r printerFault).marker = s.marker ∧ (s.giveReceipt l r printerFault).config = s.config ∧
    (s.giveReceipt l r printerFault).register = s.register ∧ (s.giveReceipt l r printerFault).bins = s.bins ∧
    (s.giveReceipt l r printerFault).alloc = s.alloc ∧ (s.giveReceipt l r printerFault).depositors = s.depositors ∧
    (s.giveReceipt l r printerFault).diverter = s.diverter ∧ (s.giveReceipt l r printerFault).levels = s.levels ∧
    (s.giveReceipt l r printerFault).windows = s.windows ∧ (s.giveReceipt l r printerFault).selection = s.selection ∧
    (s.giveReceipt l r printerFault).sweep = s.sweep ∧ (s.giveReceipt l r printerFault).strays = s.strays ∧
    (s.giveReceipt l r printerFault).manifest = s.manifest ∧ (s.giveReceipt l r printerFault).branch = s.branch ∧
    (s.giveReceipt l r printerFault).security = s.security ∧ (s.giveReceipt l r printerFault).courier = s.courier ∧
    (s.giveReceipt l r printerFault).lastStart = s.lastStart ∧ (s.giveReceipt l r printerFault).pending = s.pending := by
  simp [State.giveReceipt]

@[simp] theorem State.arrive_frame (s : State) (l : LaneId) (r : BagRecord) (printerFault : Bool) :
    (s.arrive l r printerFault).clock = s.clock ∧ (s.arrive l r printerFault).power = s.power ∧
    (s.arrive l r printerFault).marker = s.marker ∧ (s.arrive l r printerFault).config = s.config ∧
    (s.arrive l r printerFault).levels = s.levels ∧ (s.arrive l r printerFault).windows = s.windows ∧
    (s.arrive l r printerFault).selection = s.selection ∧ (s.arrive l r printerFault).sweep = s.sweep ∧
    (s.arrive l r printerFault).strays = s.strays ∧ (s.arrive l r printerFault).manifest = s.manifest ∧
    (s.arrive l r printerFault).branch = s.branch ∧ (s.arrive l r printerFault).security = s.security ∧
    (s.arrive l r printerFault).courier = s.courier ∧ (s.arrive l r printerFault).lastStart = s.lastStart ∧
    (s.arrive l r printerFault).pending = s.pending := by
  simp [State.arrive]

@[simp] theorem State.timeoutRoute_frame (s : State) (l : LaneId) (r : BagRecord) :
    (s.timeoutRoute l r).clock = s.clock ∧ (s.timeoutRoute l r).power = s.power ∧
    (s.timeoutRoute l r).marker = s.marker ∧ (s.timeoutRoute l r).config = s.config ∧
    (s.timeoutRoute l r).alloc = s.alloc ∧ (s.timeoutRoute l r).depositors = s.depositors ∧
    (s.timeoutRoute l r).levels = s.levels ∧ (s.timeoutRoute l r).windows = s.windows ∧
    (s.timeoutRoute l r).selection = s.selection ∧ (s.timeoutRoute l r).sweep = s.sweep ∧
    (s.timeoutRoute l r).strays = s.strays ∧ (s.timeoutRoute l r).manifest = s.manifest ∧
    (s.timeoutRoute l r).lastStart = s.lastStart ∧ (s.timeoutRoute l r).pending = s.pending := by
  simp [State.timeoutRoute]

@[simp] theorem State.decideDrop_frame (s : State) (l : LaneId) (x : Session) (capture : Reading) (d : Depositor) :
    (s.decideDrop l x capture d).clock = s.clock ∧ (s.decideDrop l x capture d).power = s.power ∧
    (s.decideDrop l x capture d).marker = s.marker ∧ (s.decideDrop l x capture d).config = s.config ∧
    (s.decideDrop l x capture d).levels = s.levels ∧ (s.decideDrop l x capture d).windows = s.windows ∧
    (s.decideDrop l x capture d).selection = s.selection ∧ (s.decideDrop l x capture d).sweep = s.sweep ∧
    (s.decideDrop l x capture d).manifest = s.manifest ∧ (s.decideDrop l x capture d).lastStart = s.lastStart ∧
    (s.decideDrop l x capture d).pending = s.pending := by
  simp only [State.decideDrop]
  split
  · simp
  · split
    · simp
    · rename_i made h
      have k := State.reserve_frame h
      simp only [State.modDep_frame, State.modLane_frame] at k
      simp [k]

@[simp] theorem State.checkDrop_frame (s : State) (l : LaneId) (x : Session) (capture : Reading) :
    (s.checkDrop l x capture).clock = s.clock ∧ (s.checkDrop l x capture).power = s.power ∧
    (s.checkDrop l x capture).marker = s.marker ∧ (s.checkDrop l x capture).config = s.config ∧
    (s.checkDrop l x capture).levels = s.levels ∧ (s.checkDrop l x capture).windows = s.windows ∧
    (s.checkDrop l x capture).selection = s.selection ∧ (s.checkDrop l x capture).sweep = s.sweep ∧
    (s.checkDrop l x capture).manifest = s.manifest ∧ (s.checkDrop l x capture).lastStart = s.lastStart ∧
    (s.checkDrop l x capture).pending = s.pending := by
  and_intros <;> simp only [State.checkDrop] <;> (repeat' split) <;> simp

@[simp] theorem State.check_frame (s : State) (l : LaneId) (capture : Reading) :
    (s.check l capture).clock = s.clock ∧ (s.check l capture).power = s.power ∧
    (s.check l capture).marker = s.marker ∧ (s.check l capture).config = s.config ∧
    (s.check l capture).levels = s.levels ∧ (s.check l capture).windows = s.windows ∧
    (s.check l capture).selection = s.selection ∧ (s.check l capture).sweep = s.sweep ∧
    (s.check l capture).manifest = s.manifest ∧ (s.check l capture).lastStart = s.lastStart ∧
    (s.check l capture).pending = s.pending := by
  and_intros <;> simp only [State.check] <;> (repeat' split) <;> simp

/-! ### BusOps -/

@[simp] theorem State.beginEngage_frame (s : State) (i : BinIdx) (byRelatch : Bool) :
    (s.beginEngage i byRelatch).clock = s.clock ∧ (s.beginEngage i byRelatch).power = s.power ∧
    (s.beginEngage i byRelatch).marker = s.marker ∧ (s.beginEngage i byRelatch).config = s.config ∧
    (s.beginEngage i byRelatch).register = s.register ∧ (s.beginEngage i byRelatch).alloc = s.alloc ∧
    (s.beginEngage i byRelatch).depositors = s.depositors ∧ (s.beginEngage i byRelatch).laneA = s.laneA ∧
    (s.beginEngage i byRelatch).laneB = s.laneB ∧ (s.beginEngage i byRelatch).diverter = s.diverter ∧
    (s.beginEngage i byRelatch).levels = s.levels ∧ (s.beginEngage i byRelatch).windows = s.windows ∧
    (s.beginEngage i byRelatch).selection = s.selection ∧ (s.beginEngage i byRelatch).sweep = s.sweep ∧
    (s.beginEngage i byRelatch).strays = s.strays ∧ (s.beginEngage i byRelatch).manifest = s.manifest ∧
    (s.beginEngage i byRelatch).branch = s.branch ∧ (s.beginEngage i byRelatch).security = s.security ∧
    (s.beginEngage i byRelatch).courier = s.courier ∧ (s.beginEngage i byRelatch).lastStart = s.lastStart ∧
    (s.beginEngage i byRelatch).pending = s.pending := by
  simp [State.beginEngage]

@[simp] theorem State.makeUnsecured_frame (s : State) (i : BinIdx) :
    (s.makeUnsecured i).clock = s.clock ∧ (s.makeUnsecured i).power = s.power ∧
    (s.makeUnsecured i).marker = s.marker ∧ (s.makeUnsecured i).config = s.config ∧
    (s.makeUnsecured i).register = s.register ∧ (s.makeUnsecured i).alloc = s.alloc ∧
    (s.makeUnsecured i).depositors = s.depositors ∧ (s.makeUnsecured i).laneA = s.laneA ∧
    (s.makeUnsecured i).laneB = s.laneB ∧ (s.makeUnsecured i).diverter = s.diverter ∧
    (s.makeUnsecured i).levels = s.levels ∧ (s.makeUnsecured i).windows = s.windows ∧
    (s.makeUnsecured i).selection = s.selection ∧ (s.makeUnsecured i).sweep = s.sweep ∧
    (s.makeUnsecured i).strays = s.strays ∧ (s.makeUnsecured i).manifest = s.manifest ∧
    (s.makeUnsecured i).lastStart = s.lastStart ∧ (s.makeUnsecured i).pending = s.pending := by
  simp [State.makeUnsecured]

@[simp] theorem State.faultLatch_frame (s : State) (i : BinIdx) :
    (s.faultLatch i).clock = s.clock ∧ (s.faultLatch i).power = s.power ∧ (s.faultLatch i).marker = s.marker ∧
    (s.faultLatch i).config = s.config ∧ (s.faultLatch i).register = s.register ∧ (s.faultLatch i).alloc = s.alloc ∧
    (s.faultLatch i).depositors = s.depositors ∧ (s.faultLatch i).laneA = s.laneA ∧
    (s.faultLatch i).laneB = s.laneB ∧ (s.faultLatch i).diverter = s.diverter ∧ (s.faultLatch i).levels = s.levels ∧
    (s.faultLatch i).windows = s.windows ∧ (s.faultLatch i).selection = s.selection ∧
    (s.faultLatch i).sweep = s.sweep ∧ (s.faultLatch i).strays = s.strays ∧ (s.faultLatch i).manifest = s.manifest ∧
    (s.faultLatch i).lastStart = s.lastStart ∧ (s.faultLatch i).pending = s.pending := by
  simp [State.faultLatch]

@[simp] theorem State.letGo_frame (s : State) (i : BinIdx) :
    (s.letGo i).clock = s.clock ∧ (s.letGo i).power = s.power ∧ (s.letGo i).marker = s.marker ∧
    (s.letGo i).config = s.config ∧ (s.letGo i).register = s.register ∧ (s.letGo i).alloc = s.alloc ∧
    (s.letGo i).depositors = s.depositors ∧ (s.letGo i).laneA = s.laneA ∧ (s.letGo i).laneB = s.laneB ∧
    (s.letGo i).diverter = s.diverter ∧ (s.letGo i).levels = s.levels ∧ (s.letGo i).windows = s.windows ∧
    (s.letGo i).selection = s.selection ∧ (s.letGo i).sweep = s.sweep ∧ (s.letGo i).strays = s.strays ∧
    (s.letGo i).manifest = s.manifest ∧ (s.letGo i).lastStart = s.lastStart ∧ (s.letGo i).pending = s.pending := by
  and_intros <;> simp only [State.letGo] <;> split <;> simp

@[simp] theorem State.startRead_frame (s : State) (rack : RackIdx) (asker : Asker) :
    (s.startRead rack asker).clock = s.clock ∧ (s.startRead rack asker).power = s.power ∧
    (s.startRead rack asker).marker = s.marker ∧ (s.startRead rack asker).config = s.config ∧
    (s.startRead rack asker).register = s.register ∧ (s.startRead rack asker).bins = s.bins ∧
    (s.startRead rack asker).alloc = s.alloc ∧ (s.startRead rack asker).depositors = s.depositors ∧
    (s.startRead rack asker).laneA = s.laneA ∧ (s.startRead rack asker).laneB = s.laneB ∧
    (s.startRead rack asker).diverter = s.diverter ∧ (s.startRead rack asker).levels = s.levels ∧
    (s.startRead rack asker).windows = s.windows ∧ (s.startRead rack asker).selection = s.selection ∧
    (s.startRead rack asker).strays = s.strays ∧ (s.startRead rack asker).manifest = s.manifest ∧
    (s.startRead rack asker).branch = s.branch ∧ (s.startRead rack asker).security = s.security ∧
    (s.startRead rack asker).courier = s.courier ∧ (s.startRead rack asker).lastStart = s.lastStart ∧
    (s.startRead rack asker).pending = s.pending := by
  simp [State.startRead]

@[simp] theorem State.judgeStep_frame (s : State) :
    (s.judgeStep).clock = s.clock ∧ (s.judgeStep).power = s.power ∧ (s.judgeStep).marker = s.marker ∧
    (s.judgeStep).config = s.config ∧ (s.judgeStep).register = s.register ∧ (s.judgeStep).bins = s.bins ∧
    (s.judgeStep).alloc = s.alloc ∧ (s.judgeStep).depositors = s.depositors ∧ (s.judgeStep).laneA = s.laneA ∧
    (s.judgeStep).laneB = s.laneB ∧ (s.judgeStep).diverter = s.diverter ∧ (s.judgeStep).levels = s.levels ∧
    (s.judgeStep).windows = s.windows ∧ (s.judgeStep).selection = s.selection ∧ (s.judgeStep).strays = s.strays ∧
    (s.judgeStep).manifest = s.manifest ∧ (s.judgeStep).branch = s.branch ∧ (s.judgeStep).security = s.security ∧
    (s.judgeStep).courier = s.courier ∧ (s.judgeStep).lastStart = s.lastStart ∧ (s.judgeStep).pending = s.pending := by
  and_intros <;> simp only [State.judgeStep] <;> split <;> (try split) <;> simp

@[simp] theorem State.endStep_frame (s : State) :
    (s.endStep).clock = s.clock ∧ (s.endStep).power = s.power ∧ (s.endStep).marker = s.marker ∧
    (s.endStep).config = s.config ∧ (s.endStep).register = s.register ∧ (s.endStep).bins = s.bins ∧
    (s.endStep).alloc = s.alloc ∧ (s.endStep).depositors = s.depositors ∧ (s.endStep).laneA = s.laneA ∧
    (s.endStep).laneB = s.laneB ∧ (s.endStep).diverter = s.diverter ∧ (s.endStep).levels = s.levels ∧
    (s.endStep).windows = s.windows ∧ (s.endStep).selection = s.selection ∧ (s.endStep).strays = s.strays ∧
    (s.endStep).manifest = s.manifest ∧ (s.endStep).branch = s.branch ∧ (s.endStep).security = s.security ∧
    (s.endStep).courier = s.courier ∧ (s.endStep).lastStart = s.lastStart ∧ (s.endStep).pending = s.pending := by
  and_intros <;> simp only [State.endStep] <;> split <;> simp

@[simp] theorem State.askBus_frame (s : State) :
    (s.askBus).clock = s.clock ∧ (s.askBus).marker = s.marker ∧ (s.askBus).config = s.config ∧
    (s.askBus).register = s.register ∧ (s.askBus).bins = s.bins ∧ (s.askBus).alloc = s.alloc ∧
    (s.askBus).depositors = s.depositors ∧ (s.askBus).laneA = s.laneA ∧ (s.askBus).laneB = s.laneB ∧
    (s.askBus).diverter = s.diverter ∧ (s.askBus).levels = s.levels ∧ (s.askBus).windows = s.windows ∧
    (s.askBus).selection = s.selection ∧ (s.askBus).strays = s.strays ∧ (s.askBus).manifest = s.manifest ∧
    (s.askBus).branch = s.branch ∧ (s.askBus).security = s.security ∧ (s.askBus).courier = s.courier ∧
    (s.askBus).lastStart = s.lastStart ∧ (s.askBus).pending = s.pending := by
  and_intros <;> simp only [State.askBus] <;> (repeat' split) <;> simp

@[simp] theorem State.endSelection_frame (s : State) :
    (s.endSelection).clock = s.clock ∧ (s.endSelection).marker = s.marker ∧ (s.endSelection).config = s.config ∧
    (s.endSelection).register = s.register ∧ (s.endSelection).bins = s.bins ∧ (s.endSelection).alloc = s.alloc ∧
    (s.endSelection).depositors = s.depositors ∧ (s.endSelection).laneA = s.laneA ∧
    (s.endSelection).laneB = s.laneB ∧ (s.endSelection).diverter = s.diverter ∧ (s.endSelection).levels = s.levels ∧
    (s.endSelection).windows = s.windows ∧ (s.endSelection).strays = s.strays ∧
    (s.endSelection).manifest = s.manifest ∧ (s.endSelection).branch = s.branch ∧
    (s.endSelection).security = s.security ∧ (s.endSelection).courier = s.courier ∧
    (s.endSelection).lastStart = s.lastStart ∧ (s.endSelection).pending = s.pending := by
  simp [State.endSelection]

@[simp] theorem State.endIfDone_frame (s : State) :
    (s.endIfDone).clock = s.clock ∧ (s.endIfDone).marker = s.marker ∧ (s.endIfDone).config = s.config ∧
    (s.endIfDone).register = s.register ∧ (s.endIfDone).bins = s.bins ∧ (s.endIfDone).alloc = s.alloc ∧
    (s.endIfDone).depositors = s.depositors ∧ (s.endIfDone).laneA = s.laneA ∧ (s.endIfDone).laneB = s.laneB ∧
    (s.endIfDone).diverter = s.diverter ∧ (s.endIfDone).levels = s.levels ∧ (s.endIfDone).windows = s.windows ∧
    (s.endIfDone).strays = s.strays ∧ (s.endIfDone).manifest = s.manifest ∧ (s.endIfDone).branch = s.branch ∧
    (s.endIfDone).security = s.security ∧ (s.endIfDone).courier = s.courier ∧ (s.endIfDone).lastStart = s.lastStart ∧
    (s.endIfDone).pending = s.pending := by
  and_intros <;> simp only [State.endIfDone] <;> split <;> (try split) <;> simp

@[simp] theorem State.letGoIf_frame (test : State → Bin → Bool) (s : State) (i : BinIdx) :
    (State.letGoIf test s i).clock = s.clock ∧ (State.letGoIf test s i).power = s.power ∧
    (State.letGoIf test s i).marker = s.marker ∧ (State.letGoIf test s i).config = s.config ∧
    (State.letGoIf test s i).register = s.register ∧ (State.letGoIf test s i).alloc = s.alloc ∧
    (State.letGoIf test s i).depositors = s.depositors ∧ (State.letGoIf test s i).laneA = s.laneA ∧
    (State.letGoIf test s i).laneB = s.laneB ∧ (State.letGoIf test s i).diverter = s.diverter ∧
    (State.letGoIf test s i).levels = s.levels ∧ (State.letGoIf test s i).windows = s.windows ∧
    (State.letGoIf test s i).selection = s.selection ∧ (State.letGoIf test s i).sweep = s.sweep ∧
    (State.letGoIf test s i).strays = s.strays ∧ (State.letGoIf test s i).manifest = s.manifest ∧
    (State.letGoIf test s i).lastStart = s.lastStart ∧ (State.letGoIf test s i).pending = s.pending := by
  and_intros <;> simp only [State.letGoIf] <;> split <;> simp

@[simp] theorem letGoIf_fold_frame (test : State → Bin → Bool) (is : List BinIdx) (s : State) :
    (is.foldl (State.letGoIf test) s).clock = s.clock ∧ (is.foldl (State.letGoIf test) s).power = s.power ∧
    (is.foldl (State.letGoIf test) s).marker = s.marker ∧ (is.foldl (State.letGoIf test) s).config = s.config ∧
    (is.foldl (State.letGoIf test) s).register = s.register ∧ (is.foldl (State.letGoIf test) s).alloc = s.alloc ∧
    (is.foldl (State.letGoIf test) s).depositors = s.depositors ∧ (is.foldl (State.letGoIf test) s).laneA = s.laneA ∧
    (is.foldl (State.letGoIf test) s).laneB = s.laneB ∧ (is.foldl (State.letGoIf test) s).diverter = s.diverter ∧
    (is.foldl (State.letGoIf test) s).levels = s.levels ∧ (is.foldl (State.letGoIf test) s).windows = s.windows ∧
    (is.foldl (State.letGoIf test) s).selection = s.selection ∧ (is.foldl (State.letGoIf test) s).sweep = s.sweep ∧
    (is.foldl (State.letGoIf test) s).strays = s.strays ∧ (is.foldl (State.letGoIf test) s).manifest = s.manifest ∧
    (is.foldl (State.letGoIf test) s).lastStart = s.lastStart ∧ (is.foldl (State.letGoIf test) s).pending = s.pending := by
  exact ⟨foldl_keeps _ State.clock (by simp) _ s,
    foldl_keeps _ State.power (by simp) _ s,
    foldl_keeps _ State.marker (by simp) _ s,
    foldl_keeps _ State.config (by simp) _ s,
    foldl_keeps _ State.register (by simp) _ s,
    foldl_keeps _ State.alloc (by simp) _ s,
    foldl_keeps _ State.depositors (by simp) _ s,
    foldl_keeps _ State.laneA (by simp) _ s,
    foldl_keeps _ State.laneB (by simp) _ s,
    foldl_keeps _ State.diverter (by simp) _ s,
    foldl_keeps _ State.levels (by simp) _ s,
    foldl_keeps _ State.windows (by simp) _ s,
    foldl_keeps _ State.selection (by simp) _ s,
    foldl_keeps _ State.sweep (by simp) _ s,
    foldl_keeps _ State.strays (by simp) _ s,
    foldl_keeps _ State.manifest (by simp) _ s,
    foldl_keeps _ State.lastStart (by simp) _ s,
    foldl_keeps _ State.pending (by simp) _ s⟩

@[simp] theorem State.releaseSelection_frame (s : State) :
    (s.releaseSelection).clock = s.clock ∧ (s.releaseSelection).marker = s.marker ∧
    (s.releaseSelection).config = s.config ∧ (s.releaseSelection).register = s.register ∧
    (s.releaseSelection).alloc = s.alloc ∧ (s.releaseSelection).depositors = s.depositors ∧
    (s.releaseSelection).laneA = s.laneA ∧ (s.releaseSelection).laneB = s.laneB ∧
    (s.releaseSelection).diverter = s.diverter ∧ (s.releaseSelection).levels = s.levels ∧
    (s.releaseSelection).windows = s.windows ∧ (s.releaseSelection).strays = s.strays ∧
    (s.releaseSelection).manifest = s.manifest ∧ (s.releaseSelection).lastStart = s.lastStart ∧
    (s.releaseSelection).pending = s.pending := by
  and_intros <;> simp only [State.releaseSelection] <;> split <;> (try split) <;> simp

@[simp] theorem State.dropUnpermitted_frame (s : State) :
    (s.dropUnpermitted).clock = s.clock ∧ (s.dropUnpermitted).marker = s.marker ∧
    (s.dropUnpermitted).config = s.config ∧ (s.dropUnpermitted).register = s.register ∧
    (s.dropUnpermitted).alloc = s.alloc ∧ (s.dropUnpermitted).depositors = s.depositors ∧
    (s.dropUnpermitted).laneA = s.laneA ∧ (s.dropUnpermitted).laneB = s.laneB ∧
    (s.dropUnpermitted).diverter = s.diverter ∧ (s.dropUnpermitted).levels = s.levels ∧
    (s.dropUnpermitted).windows = s.windows ∧ (s.dropUnpermitted).strays = s.strays ∧
    (s.dropUnpermitted).manifest = s.manifest ∧ (s.dropUnpermitted).lastStart = s.lastStart ∧
    (s.dropUnpermitted).pending = s.pending := by
  and_intros <;> simp only [State.dropUnpermitted] <;> split <;> simp

@[simp] theorem State.settleReleased_frame (s : State) (i : BinIdx) :
    (s.settleReleased i).clock = s.clock ∧ (s.settleReleased i).power = s.power ∧
    (s.settleReleased i).marker = s.marker ∧ (s.settleReleased i).config = s.config ∧
    (s.settleReleased i).register = s.register ∧ (s.settleReleased i).alloc = s.alloc ∧
    (s.settleReleased i).depositors = s.depositors ∧ (s.settleReleased i).laneA = s.laneA ∧
    (s.settleReleased i).laneB = s.laneB ∧ (s.settleReleased i).diverter = s.diverter ∧
    (s.settleReleased i).levels = s.levels ∧ (s.settleReleased i).windows = s.windows ∧
    (s.settleReleased i).selection = s.selection ∧ (s.settleReleased i).sweep = s.sweep ∧
    (s.settleReleased i).strays = s.strays ∧ (s.settleReleased i).manifest = s.manifest ∧
    (s.settleReleased i).lastStart = s.lastStart ∧ (s.settleReleased i).pending = s.pending := by
  and_intros <;> simp only [State.settleReleased] <;> split <;> (try split) <;> simp

@[simp] theorem State.startStepTimer_frame (s : State) :
    (s.startStepTimer).clock = s.clock ∧ (s.startStepTimer).power = s.power ∧ (s.startStepTimer).marker = s.marker ∧
    (s.startStepTimer).config = s.config ∧ (s.startStepTimer).register = s.register ∧
    (s.startStepTimer).bins = s.bins ∧ (s.startStepTimer).alloc = s.alloc ∧
    (s.startStepTimer).depositors = s.depositors ∧ (s.startStepTimer).laneA = s.laneA ∧
    (s.startStepTimer).laneB = s.laneB ∧ (s.startStepTimer).diverter = s.diverter ∧
    (s.startStepTimer).levels = s.levels ∧ (s.startStepTimer).windows = s.windows ∧
    (s.startStepTimer).selection = s.selection ∧ (s.startStepTimer).strays = s.strays ∧
    (s.startStepTimer).manifest = s.manifest ∧ (s.startStepTimer).branch = s.branch ∧
    (s.startStepTimer).security = s.security ∧ (s.startStepTimer).courier = s.courier ∧
    (s.startStepTimer).lastStart = s.lastStart ∧ (s.startStepTimer).pending = s.pending := by
  and_intros <;> simp only [State.startStepTimer] <;> split <;> simp

@[simp] theorem State.markOverdue_frame (s : State) (rack : RackIdx) :
    (s.markOverdue rack).clock = s.clock ∧ (s.markOverdue rack).power = s.power ∧
    (s.markOverdue rack).marker = s.marker ∧ (s.markOverdue rack).config = s.config ∧
    (s.markOverdue rack).register = s.register ∧ (s.markOverdue rack).bins = s.bins ∧
    (s.markOverdue rack).alloc = s.alloc ∧ (s.markOverdue rack).depositors = s.depositors ∧
    (s.markOverdue rack).laneA = s.laneA ∧ (s.markOverdue rack).laneB = s.laneB ∧
    (s.markOverdue rack).diverter = s.diverter ∧ (s.markOverdue rack).levels = s.levels ∧
    (s.markOverdue rack).windows = s.windows ∧ (s.markOverdue rack).selection = s.selection ∧
    (s.markOverdue rack).strays = s.strays ∧ (s.markOverdue rack).manifest = s.manifest ∧
    (s.markOverdue rack).lastStart = s.lastStart ∧ (s.markOverdue rack).pending = s.pending := by
  simp [State.markOverdue]

@[simp] theorem State.testOverdue_frame (s : State) (rack : RackIdx) :
    (s.testOverdue rack).clock = s.clock ∧ (s.testOverdue rack).power = s.power ∧
    (s.testOverdue rack).marker = s.marker ∧ (s.testOverdue rack).config = s.config ∧
    (s.testOverdue rack).register = s.register ∧ (s.testOverdue rack).bins = s.bins ∧
    (s.testOverdue rack).alloc = s.alloc ∧ (s.testOverdue rack).depositors = s.depositors ∧
    (s.testOverdue rack).laneA = s.laneA ∧ (s.testOverdue rack).laneB = s.laneB ∧
    (s.testOverdue rack).diverter = s.diverter ∧ (s.testOverdue rack).levels = s.levels ∧
    (s.testOverdue rack).windows = s.windows ∧ (s.testOverdue rack).selection = s.selection ∧
    (s.testOverdue rack).strays = s.strays ∧ (s.testOverdue rack).manifest = s.manifest ∧
    (s.testOverdue rack).lastStart = s.lastStart ∧ (s.testOverdue rack).pending = s.pending := by
  and_intros <;> simp only [State.testOverdue] <;> split <;> simp

@[simp] theorem State.testAllOverdue_frame (s : State) :
    (s.testAllOverdue).clock = s.clock ∧ (s.testAllOverdue).power = s.power ∧ (s.testAllOverdue).marker = s.marker ∧
    (s.testAllOverdue).config = s.config ∧ (s.testAllOverdue).register = s.register ∧
    (s.testAllOverdue).bins = s.bins ∧ (s.testAllOverdue).alloc = s.alloc ∧
    (s.testAllOverdue).depositors = s.depositors ∧ (s.testAllOverdue).laneA = s.laneA ∧
    (s.testAllOverdue).laneB = s.laneB ∧ (s.testAllOverdue).diverter = s.diverter ∧
    (s.testAllOverdue).levels = s.levels ∧ (s.testAllOverdue).windows = s.windows ∧
    (s.testAllOverdue).selection = s.selection ∧ (s.testAllOverdue).strays = s.strays ∧
    (s.testAllOverdue).manifest = s.manifest ∧ (s.testAllOverdue).lastStart = s.lastStart ∧
    (s.testAllOverdue).pending = s.pending := by
  simp only [State.testAllOverdue]
  exact ⟨foldl_keeps State.testOverdue State.clock (by simp) _ s,
    foldl_keeps State.testOverdue State.power (by simp) _ s,
    foldl_keeps State.testOverdue State.marker (by simp) _ s,
    foldl_keeps State.testOverdue State.config (by simp) _ s,
    foldl_keeps State.testOverdue State.register (by simp) _ s,
    foldl_keeps State.testOverdue State.bins (by simp) _ s,
    foldl_keeps State.testOverdue State.alloc (by simp) _ s,
    foldl_keeps State.testOverdue State.depositors (by simp) _ s,
    foldl_keeps State.testOverdue State.laneA (by simp) _ s,
    foldl_keeps State.testOverdue State.laneB (by simp) _ s,
    foldl_keeps State.testOverdue State.diverter (by simp) _ s,
    foldl_keeps State.testOverdue State.levels (by simp) _ s,
    foldl_keeps State.testOverdue State.windows (by simp) _ s,
    foldl_keeps State.testOverdue State.selection (by simp) _ s,
    foldl_keeps State.testOverdue State.strays (by simp) _ s,
    foldl_keeps State.testOverdue State.manifest (by simp) _ s,
    foldl_keeps State.testOverdue State.lastStart (by simp) _ s,
    foldl_keeps State.testOverdue State.pending (by simp) _ s⟩

@[simp] theorem State.beginInventory_frame (s : State) :
    (s.beginInventory).clock = s.clock ∧ (s.beginInventory).marker = s.marker ∧
    (s.beginInventory).config = s.config ∧ (s.beginInventory).register = s.register ∧
    (s.beginInventory).bins = s.bins ∧ (s.beginInventory).alloc = s.alloc ∧
    (s.beginInventory).depositors = s.depositors ∧ (s.beginInventory).laneA = s.laneA ∧
    (s.beginInventory).laneB = s.laneB ∧ (s.beginInventory).diverter = s.diverter ∧
    (s.beginInventory).levels = s.levels ∧ (s.beginInventory).windows = s.windows ∧
    (s.beginInventory).selection = s.selection ∧ (s.beginInventory).strays = s.strays ∧
    (s.beginInventory).manifest = s.manifest ∧ (s.beginInventory).branch = s.branch ∧
    (s.beginInventory).security = s.security ∧ (s.beginInventory).courier = s.courier ∧
    (s.beginInventory).lastStart = s.lastStart ∧ (s.beginInventory).pending = s.pending := by
  simp [State.beginInventory]

@[simp] theorem State.endInventory_frame (s : State) :
    (s.endInventory).clock = s.clock ∧ (s.endInventory).marker = s.marker ∧ (s.endInventory).config = s.config ∧
    (s.endInventory).diverter = s.diverter ∧ (s.endInventory).levels = s.levels ∧
    (s.endInventory).windows = s.windows ∧ (s.endInventory).selection = s.selection ∧
    (s.endInventory).strays = s.strays ∧ (s.endInventory).manifest = s.manifest ∧
    (s.endInventory).branch = s.branch ∧ (s.endInventory).security = s.security ∧
    (s.endInventory).courier = s.courier ∧ (s.endInventory).lastStart = s.lastStart ∧
    (s.endInventory).pending = s.pending := by
  simp [State.endInventory]

@[simp] theorem State.checkRack_frame (s : State) (rack : RackIdx) (seen : List (List Tag)) :
    (s.checkRack rack seen).clock = s.clock ∧ (s.checkRack rack seen).power = s.power ∧
    (s.checkRack rack seen).marker = s.marker ∧ (s.checkRack rack seen).config = s.config ∧
    (s.checkRack rack seen).alloc = s.alloc ∧ (s.checkRack rack seen).depositors = s.depositors ∧
    (s.checkRack rack seen).laneA = s.laneA ∧ (s.checkRack rack seen).laneB = s.laneB ∧
    (s.checkRack rack seen).diverter = s.diverter ∧ (s.checkRack rack seen).levels = s.levels ∧
    (s.checkRack rack seen).windows = s.windows ∧ (s.checkRack rack seen).selection = s.selection ∧
    (s.checkRack rack seen).sweep = s.sweep ∧ (s.checkRack rack seen).lastStart = s.lastStart ∧
    (s.checkRack rack seen).pending = s.pending := by
  simp only [State.checkRack]
  exact ⟨foldl_keeps _ State.clock (by simp) _ s,
    foldl_keeps _ State.power (by simp) _ s,
    foldl_keeps _ State.marker (by simp) _ s,
    foldl_keeps _ State.config (by simp) _ s,
    foldl_keeps _ State.alloc (by simp) _ s,
    foldl_keeps _ State.depositors (by simp) _ s,
    foldl_keeps _ State.laneA (by simp) _ s,
    foldl_keeps _ State.laneB (by simp) _ s,
    foldl_keeps _ State.diverter (by simp) _ s,
    foldl_keeps _ State.levels (by simp) _ s,
    foldl_keeps _ State.windows (by simp) _ s,
    foldl_keeps _ State.selection (by simp) _ s,
    foldl_keeps _ State.sweep (by simp) _ s,
    foldl_keeps _ State.lastStart (by simp) _ s,
    foldl_keeps _ State.pending (by simp) _ s⟩

@[simp] theorem State.finishRead_frame (s : State) (asker : Asker) :
    (s.finishRead asker).clock = s.clock ∧ (s.finishRead asker).marker = s.marker ∧
    (s.finishRead asker).config = s.config ∧ (s.finishRead asker).diverter = s.diverter ∧
    (s.finishRead asker).levels = s.levels ∧ (s.finishRead asker).windows = s.windows ∧
    (s.finishRead asker).selection = s.selection ∧ (s.finishRead asker).strays = s.strays ∧
    (s.finishRead asker).manifest = s.manifest ∧ (s.finishRead asker).branch = s.branch ∧
    (s.finishRead asker).security = s.security ∧ (s.finishRead asker).courier = s.courier ∧
    (s.finishRead asker).lastStart = s.lastStart ∧ (s.finishRead asker).pending = s.pending := by
  and_intros <;> simp only [State.finishRead] <;> (repeat' split) <;> simp

/-! ### LevelOps -/

@[simp] theorem State.setRaise_frame (s : State) (r : Option Raise) :
    (s.setRaise r).clock = s.clock ∧ (s.setRaise r).power = s.power ∧ (s.setRaise r).marker = s.marker ∧
    (s.setRaise r).config = s.config ∧ (s.setRaise r).register = s.register ∧ (s.setRaise r).bins = s.bins ∧
    (s.setRaise r).alloc = s.alloc ∧ (s.setRaise r).depositors = s.depositors ∧ (s.setRaise r).laneA = s.laneA ∧
    (s.setRaise r).laneB = s.laneB ∧ (s.setRaise r).diverter = s.diverter ∧ (s.setRaise r).windows = s.windows ∧
    (s.setRaise r).selection = s.selection ∧ (s.setRaise r).sweep = s.sweep ∧ (s.setRaise r).strays = s.strays ∧
    (s.setRaise r).manifest = s.manifest ∧ (s.setRaise r).branch = s.branch ∧ (s.setRaise r).security = s.security ∧
    (s.setRaise r).courier = s.courier ∧ (s.setRaise r).lastStart = s.lastStart ∧ (s.setRaise r).pending = s.pending := by
  simp [State.setRaise]

@[simp] theorem State.noteReady_frame (s : State) (p : Party) (yes : Bool) :
    (s.noteReady p yes).clock = s.clock ∧ (s.noteReady p yes).power = s.power ∧
    (s.noteReady p yes).marker = s.marker ∧ (s.noteReady p yes).config = s.config ∧
    (s.noteReady p yes).register = s.register ∧ (s.noteReady p yes).bins = s.bins ∧
    (s.noteReady p yes).alloc = s.alloc ∧ (s.noteReady p yes).depositors = s.depositors ∧
    (s.noteReady p yes).laneA = s.laneA ∧ (s.noteReady p yes).laneB = s.laneB ∧
    (s.noteReady p yes).diverter = s.diverter ∧ (s.noteReady p yes).levels = s.levels ∧
    (s.noteReady p yes).windows = s.windows ∧ (s.noteReady p yes).selection = s.selection ∧
    (s.noteReady p yes).sweep = s.sweep ∧ (s.noteReady p yes).strays = s.strays ∧
    (s.noteReady p yes).manifest = s.manifest ∧ (s.noteReady p yes).lastStart = s.lastStart ∧
    (s.noteReady p yes).pending = s.pending := by
  and_intros <;> simp only [State.noteReady] <;> split <;> simp

@[simp] theorem State.becomeReady_frame (s : State) (r : Raise) :
    (s.becomeReady r).clock = s.clock ∧ (s.becomeReady r).power = s.power ∧ (s.becomeReady r).marker = s.marker ∧
    (s.becomeReady r).config = s.config ∧ (s.becomeReady r).register = s.register ∧ (s.becomeReady r).bins = s.bins ∧
    (s.becomeReady r).alloc = s.alloc ∧ (s.becomeReady r).depositors = s.depositors ∧
    (s.becomeReady r).laneA = s.laneA ∧ (s.becomeReady r).laneB = s.laneB ∧ (s.becomeReady r).diverter = s.diverter ∧
    (s.becomeReady r).windows = s.windows ∧ (s.becomeReady r).selection = s.selection ∧
    (s.becomeReady r).sweep = s.sweep ∧ (s.becomeReady r).strays = s.strays ∧
    (s.becomeReady r).manifest = s.manifest ∧ (s.becomeReady r).lastStart = s.lastStart ∧
    (s.becomeReady r).pending = s.pending := by
  simp [State.becomeReady]

@[simp] theorem State.startRaise_frame (s : State) (target : Level) :
    (s.startRaise target).clock = s.clock ∧ (s.startRaise target).power = s.power ∧
    (s.startRaise target).marker = s.marker ∧ (s.startRaise target).config = s.config ∧
    (s.startRaise target).register = s.register ∧ (s.startRaise target).bins = s.bins ∧
    (s.startRaise target).alloc = s.alloc ∧ (s.startRaise target).depositors = s.depositors ∧
    (s.startRaise target).laneA = s.laneA ∧ (s.startRaise target).laneB = s.laneB ∧
    (s.startRaise target).diverter = s.diverter ∧ (s.startRaise target).windows = s.windows ∧
    (s.startRaise target).selection = s.selection ∧ (s.startRaise target).sweep = s.sweep ∧
    (s.startRaise target).strays = s.strays ∧ (s.startRaise target).manifest = s.manifest ∧
    (s.startRaise target).lastStart = s.lastStart ∧ (s.startRaise target).pending = s.pending := by
  and_intros <;> simp only [State.startRaise] <;> split <;> simp

@[simp] theorem State.carryRaise_frame (s : State) (r : Raise) (target : Level) :
    (s.carryRaise r target).clock = s.clock ∧ (s.carryRaise r target).power = s.power ∧
    (s.carryRaise r target).marker = s.marker ∧ (s.carryRaise r target).config = s.config ∧
    (s.carryRaise r target).register = s.register ∧ (s.carryRaise r target).bins = s.bins ∧
    (s.carryRaise r target).alloc = s.alloc ∧ (s.carryRaise r target).depositors = s.depositors ∧
    (s.carryRaise r target).laneA = s.laneA ∧ (s.carryRaise r target).laneB = s.laneB ∧
    (s.carryRaise r target).diverter = s.diverter ∧ (s.carryRaise r target).windows = s.windows ∧
    (s.carryRaise r target).selection = s.selection ∧ (s.carryRaise r target).sweep = s.sweep ∧
    (s.carryRaise r target).strays = s.strays ∧ (s.carryRaise r target).manifest = s.manifest ∧
    (s.carryRaise r target).lastStart = s.lastStart ∧ (s.carryRaise r target).pending = s.pending := by
  and_intros <;> simp only [State.carryRaise] <;> split <;> simp

@[simp] theorem State.carryReady_frame (s : State) (before : LevelArbiter) (r : Raise) (target : Level) :
    (s.carryReady before r target).clock = s.clock ∧ (s.carryReady before r target).power = s.power ∧
    (s.carryReady before r target).marker = s.marker ∧ (s.carryReady before r target).config = s.config ∧
    (s.carryReady before r target).register = s.register ∧ (s.carryReady before r target).bins = s.bins ∧
    (s.carryReady before r target).alloc = s.alloc ∧ (s.carryReady before r target).depositors = s.depositors ∧
    (s.carryReady before r target).laneA = s.laneA ∧ (s.carryReady before r target).laneB = s.laneB ∧
    (s.carryReady before r target).diverter = s.diverter ∧ (s.carryReady before r target).windows = s.windows ∧
    (s.carryReady before r target).selection = s.selection ∧ (s.carryReady before r target).sweep = s.sweep ∧
    (s.carryReady before r target).strays = s.strays ∧ (s.carryReady before r target).manifest = s.manifest ∧
    (s.carryReady before r target).lastStart = s.lastStart ∧ (s.carryReady before r target).pending = s.pending := by
  and_intros <;> simp only [State.carryReady] <;> split <;> simp

@[simp] theorem State.levelEffects_frame (s : State) (old new : Level) :
    (s.levelEffects old new).clock = s.clock ∧ (s.levelEffects old new).power = s.power ∧
    (s.levelEffects old new).marker = s.marker ∧ (s.levelEffects old new).config = s.config ∧
    (s.levelEffects old new).diverter = s.diverter ∧ (s.levelEffects old new).levels = s.levels ∧
    (s.levelEffects old new).windows = s.windows ∧ (s.levelEffects old new).selection = s.selection ∧
    (s.levelEffects old new).sweep = s.sweep ∧ (s.levelEffects old new).strays = s.strays ∧
    (s.levelEffects old new).manifest = s.manifest ∧ (s.levelEffects old new).lastStart = s.lastStart ∧
    (s.levelEffects old new).pending = s.pending := by
  and_intros <;> simp only [State.levelEffects] <;> split <;> (try split) <;> simp

@[simp] theorem State.lower_frame (s : State) (target : Level) :
    (s.lower target).clock = s.clock ∧ (s.lower target).marker = s.marker ∧ (s.lower target).config = s.config ∧
    (s.lower target).diverter = s.diverter ∧ (s.lower target).windows = s.windows ∧
    (s.lower target).strays = s.strays ∧ (s.lower target).manifest = s.manifest ∧
    (s.lower target).lastStart = s.lastStart ∧ (s.lower target).pending = s.pending := by
  simp [State.lower]

@[simp] theorem State.arbitrate_frame (s : State) (before : LevelArbiter) :
    (s.arbitrate before).clock = s.clock ∧ (s.arbitrate before).marker = s.marker ∧
    (s.arbitrate before).config = s.config ∧ (s.arbitrate before).diverter = s.diverter ∧
    (s.arbitrate before).windows = s.windows ∧ (s.arbitrate before).strays = s.strays ∧
    (s.arbitrate before).manifest = s.manifest ∧ (s.arbitrate before).lastStart = s.lastStart ∧
    (s.arbitrate before).pending = s.pending := by
  and_intros <;> simp only [State.arbitrate] <;> (repeat' split) <;> simp

@[simp] theorem State.recomputeAllowance_frame (s : State) :
    (s.recomputeAllowance).clock = s.clock ∧ (s.recomputeAllowance).marker = s.marker ∧
    (s.recomputeAllowance).config = s.config ∧ (s.recomputeAllowance).diverter = s.diverter ∧
    (s.recomputeAllowance).windows = s.windows ∧ (s.recomputeAllowance).strays = s.strays ∧
    (s.recomputeAllowance).manifest = s.manifest ∧ (s.recomputeAllowance).lastStart = s.lastStart ∧
    (s.recomputeAllowance).pending = s.pending := by
  and_intros <;> simp only [State.recomputeAllowance] <;> split <;> simp

@[simp] theorem State.delist_frame (s : State) (receipt : Nat) :
    (s.delist receipt).clock = s.clock ∧ (s.delist receipt).power = s.power ∧ (s.delist receipt).marker = s.marker ∧
    (s.delist receipt).config = s.config ∧ (s.delist receipt).bins = s.bins ∧ (s.delist receipt).alloc = s.alloc ∧
    (s.delist receipt).depositors = s.depositors ∧ (s.delist receipt).laneA = s.laneA ∧
    (s.delist receipt).laneB = s.laneB ∧ (s.delist receipt).diverter = s.diverter ∧
    (s.delist receipt).levels = s.levels ∧ (s.delist receipt).windows = s.windows ∧
    (s.delist receipt).selection = s.selection ∧ (s.delist receipt).sweep = s.sweep ∧
    (s.delist receipt).strays = s.strays ∧ (s.delist receipt).manifest = s.manifest ∧
    (s.delist receipt).branch = s.branch ∧ (s.delist receipt).security = s.security ∧
    (s.delist receipt).courier = s.courier ∧ (s.delist receipt).lastStart = s.lastStart ∧
    (s.delist receipt).pending = s.pending := by
  simp [State.delist]

@[simp] theorem State.returnEntries_frame (s : State) :
    (s.returnEntries).clock = s.clock ∧ (s.returnEntries).power = s.power ∧ (s.returnEntries).marker = s.marker ∧
    (s.returnEntries).config = s.config ∧ (s.returnEntries).bins = s.bins ∧ (s.returnEntries).alloc = s.alloc ∧
    (s.returnEntries).depositors = s.depositors ∧ (s.returnEntries).laneA = s.laneA ∧
    (s.returnEntries).laneB = s.laneB ∧ (s.returnEntries).diverter = s.diverter ∧
    (s.returnEntries).levels = s.levels ∧ (s.returnEntries).windows = s.windows ∧
    (s.returnEntries).selection = s.selection ∧ (s.returnEntries).sweep = s.sweep ∧
    (s.returnEntries).strays = s.strays ∧ (s.returnEntries).branch = s.branch ∧
    (s.returnEntries).security = s.security ∧ (s.returnEntries).courier = s.courier ∧
    (s.returnEntries).lastStart = s.lastStart ∧ (s.returnEntries).pending = s.pending := by
  simp only [State.returnEntries]
  exact ⟨foldl_keeps State.delist State.clock (by simp) _ s,
    foldl_keeps State.delist State.power (by simp) _ s,
    foldl_keeps State.delist State.marker (by simp) _ s,
    foldl_keeps State.delist State.config (by simp) _ s,
    foldl_keeps State.delist State.bins (by simp) _ s,
    foldl_keeps State.delist State.alloc (by simp) _ s,
    foldl_keeps State.delist State.depositors (by simp) _ s,
    foldl_keeps State.delist State.laneA (by simp) _ s,
    foldl_keeps State.delist State.laneB (by simp) _ s,
    foldl_keeps State.delist State.diverter (by simp) _ s,
    foldl_keeps State.delist State.levels (by simp) _ s,
    foldl_keeps State.delist State.windows (by simp) _ s,
    foldl_keeps State.delist State.selection (by simp) _ s,
    foldl_keeps State.delist State.sweep (by simp) _ s,
    foldl_keeps State.delist State.strays (by simp) _ s,
    foldl_keeps State.delist State.branch (by simp) _ s,
    foldl_keeps State.delist State.security (by simp) _ s,
    foldl_keeps State.delist State.courier (by simp) _ s,
    foldl_keeps State.delist State.lastStart (by simp) _ s,
    foldl_keeps State.delist State.pending (by simp) _ s⟩

@[simp] theorem State.dropCourierRequest_frame (s : State) :
    (s.dropCourierRequest).clock = s.clock ∧ (s.dropCourierRequest).marker = s.marker ∧
    (s.dropCourierRequest).config = s.config ∧ (s.dropCourierRequest).diverter = s.diverter ∧
    (s.dropCourierRequest).windows = s.windows ∧ (s.dropCourierRequest).strays = s.strays ∧
    (s.dropCourierRequest).manifest = s.manifest ∧ (s.dropCourierRequest).lastStart = s.lastStart ∧
    (s.dropCourierRequest).pending = s.pending := by
  simp [State.dropCourierRequest]

@[simp] theorem State.releaseCourier_frame (s : State) :
    (s.releaseCourier).clock = s.clock ∧ (s.releaseCourier).marker = s.marker ∧
    (s.releaseCourier).config = s.config ∧ (s.releaseCourier).register = s.register ∧
    (s.releaseCourier).alloc = s.alloc ∧ (s.releaseCourier).depositors = s.depositors ∧
    (s.releaseCourier).laneA = s.laneA ∧ (s.releaseCourier).laneB = s.laneB ∧
    (s.releaseCourier).diverter = s.diverter ∧ (s.releaseCourier).levels = s.levels ∧
    (s.releaseCourier).windows = s.windows ∧ (s.releaseCourier).strays = s.strays ∧
    (s.releaseCourier).manifest = s.manifest ∧ (s.releaseCourier).lastStart = s.lastStart ∧
    (s.releaseCourier).pending = s.pending := by
  and_intros <;> simp only [State.releaseCourier] <;> split <;> (try split) <;> simp

@[simp] theorem State.closeManifest_frame (s : State) :
    (s.closeManifest).clock = s.clock ∧ (s.closeManifest).marker = s.marker ∧ (s.closeManifest).config = s.config ∧
    (s.closeManifest).diverter = s.diverter ∧ (s.closeManifest).windows = s.windows ∧
    (s.closeManifest).strays = s.strays ∧ (s.closeManifest).lastStart = s.lastStart ∧
    (s.closeManifest).pending = s.pending := by
  simp [State.closeManifest]

/-! ### LinkOps -/

@[simp] theorem State.reply_frame (s : State) (l : Link) (code : Nat) (a : Answer) :
    (s.reply l code a).clock = s.clock ∧ (s.reply l code a).power = s.power ∧ (s.reply l code a).marker = s.marker ∧
    (s.reply l code a).config = s.config ∧ (s.reply l code a).register = s.register ∧
    (s.reply l code a).bins = s.bins ∧ (s.reply l code a).alloc = s.alloc ∧
    (s.reply l code a).depositors = s.depositors ∧ (s.reply l code a).laneA = s.laneA ∧
    (s.reply l code a).laneB = s.laneB ∧ (s.reply l code a).diverter = s.diverter ∧
    (s.reply l code a).levels = s.levels ∧ (s.reply l code a).windows = s.windows ∧
    (s.reply l code a).selection = s.selection ∧ (s.reply l code a).sweep = s.sweep ∧
    (s.reply l code a).strays = s.strays ∧ (s.reply l code a).manifest = s.manifest ∧
    (s.reply l code a).lastStart = s.lastStart ∧ (s.reply l code a).pending = s.pending := by
  simp [State.reply]

end Sys2Proof.Machine
end

