-- ==== Sys2Proof/Laws/CommandFrames.lean ====
section
/-!
SUPPORT. The same for the operations of the commands' own meanings: one simp lemma each that names every field of the
state it leaves as it was.
-/
namespace Sys2Proof.Machine


/-! ### Requests -/

@[simp] theorem State.setBranchRequest_frame (s : State) (v : Level) :
    (s.setBranchRequest v).clock = s.clock ∧ (s.setBranchRequest v).marker = s.marker ∧
    (s.setBranchRequest v).config = s.config ∧ (s.setBranchRequest v).diverter = s.diverter ∧
    (s.setBranchRequest v).windows = s.windows ∧ (s.setBranchRequest v).strays = s.strays ∧
    (s.setBranchRequest v).manifest = s.manifest ∧ (s.setBranchRequest v).lastStart = s.lastStart ∧
    (s.setBranchRequest v).pending = s.pending := by
  simp [State.setBranchRequest]

@[simp] theorem State.setCourierRequest_frame (s : State) (v : CourierRequest) :
    (s.setCourierRequest v).clock = s.clock ∧ (s.setCourierRequest v).marker = s.marker ∧
    (s.setCourierRequest v).config = s.config ∧ (s.setCourierRequest v).diverter = s.diverter ∧
    (s.setCourierRequest v).windows = s.windows ∧ (s.setCourierRequest v).strays = s.strays ∧
    (s.setCourierRequest v).manifest = s.manifest ∧ (s.setCourierRequest v).lastStart = s.lastStart ∧
    (s.setCourierRequest v).pending = s.pending := by
  simp [State.setCourierRequest]

@[simp] theorem State.completeRaise_frame (s : State) (target : Level) :
    (s.completeRaise target).clock = s.clock ∧ (s.completeRaise target).power = s.power ∧
    (s.completeRaise target).marker = s.marker ∧ (s.completeRaise target).config = s.config ∧
    (s.completeRaise target).diverter = s.diverter ∧ (s.completeRaise target).windows = s.windows ∧
    (s.completeRaise target).selection = s.selection ∧ (s.completeRaise target).sweep = s.sweep ∧
    (s.completeRaise target).strays = s.strays ∧ (s.completeRaise target).manifest = s.manifest ∧
    (s.completeRaise target).lastStart = s.lastStart ∧ (s.completeRaise target).pending = s.pending := by
  simp [State.completeRaise]

@[simp] theorem State.setCeilingTo_frame (s : State) (v : Level) :
    (s.setCeilingTo v).clock = s.clock ∧ (s.setCeilingTo v).marker = s.marker ∧
    (s.setCeilingTo v).config = s.config ∧ (s.setCeilingTo v).diverter = s.diverter ∧
    (s.setCeilingTo v).windows = s.windows ∧ (s.setCeilingTo v).strays = s.strays ∧
    (s.setCeilingTo v).manifest = s.manifest ∧ (s.setCeilingTo v).lastStart = s.lastStart ∧
    (s.setCeilingTo v).pending = s.pending := by
  simp [State.setCeilingTo]

@[simp] theorem State.writeSlot_frame (s : State) (i : Fin 8) (w : Option Window) :
    (s.writeSlot i w).clock = s.clock ∧ (s.writeSlot i w).marker = s.marker ∧ (s.writeSlot i w).config = s.config ∧
    (s.writeSlot i w).diverter = s.diverter ∧ (s.writeSlot i w).strays = s.strays ∧
    (s.writeSlot i w).manifest = s.manifest ∧ (s.writeSlot i w).lastStart = s.lastStart ∧
    (s.writeSlot i w).pending = s.pending := by
  simp [State.writeSlot]

@[simp] theorem State.judgeWaiting_frame (s : State) :
    (s.judgeWaiting).clock = s.clock ∧ (s.judgeWaiting).power = s.power ∧ (s.judgeWaiting).marker = s.marker ∧
    (s.judgeWaiting).config = s.config ∧ (s.judgeWaiting).register = s.register ∧ (s.judgeWaiting).bins = s.bins ∧
    (s.judgeWaiting).alloc = s.alloc ∧ (s.judgeWaiting).depositors = s.depositors ∧
    (s.judgeWaiting).laneA = s.laneA ∧ (s.judgeWaiting).laneB = s.laneB ∧ (s.judgeWaiting).diverter = s.diverter ∧
    (s.judgeWaiting).levels = s.levels ∧ (s.judgeWaiting).windows = s.windows ∧
    (s.judgeWaiting).selection = s.selection ∧ (s.judgeWaiting).strays = s.strays ∧
    (s.judgeWaiting).manifest = s.manifest ∧ (s.judgeWaiting).branch = s.branch ∧
    (s.judgeWaiting).security = s.security ∧ (s.judgeWaiting).courier = s.courier ∧
    (s.judgeWaiting).lastStart = s.lastStart ∧ (s.judgeWaiting).pending = s.pending := by
  and_intros <;> simp only [State.judgeWaiting] <;> split <;> simp

@[simp] theorem State.makeSelection_frame (s : State) (p : Party) (rack : RackIdx) :
    (s.makeSelection p rack).clock = s.clock ∧ (s.makeSelection p rack).power = s.power ∧
    (s.makeSelection p rack).marker = s.marker ∧ (s.makeSelection p rack).config = s.config ∧
    (s.makeSelection p rack).register = s.register ∧ (s.makeSelection p rack).bins = s.bins ∧
    (s.makeSelection p rack).alloc = s.alloc ∧ (s.makeSelection p rack).depositors = s.depositors ∧
    (s.makeSelection p rack).laneA = s.laneA ∧ (s.makeSelection p rack).laneB = s.laneB ∧
    (s.makeSelection p rack).diverter = s.diverter ∧ (s.makeSelection p rack).levels = s.levels ∧
    (s.makeSelection p rack).windows = s.windows ∧ (s.makeSelection p rack).strays = s.strays ∧
    (s.makeSelection p rack).manifest = s.manifest ∧ (s.makeSelection p rack).branch = s.branch ∧
    (s.makeSelection p rack).security = s.security ∧ (s.makeSelection p rack).courier = s.courier ∧
    (s.makeSelection p rack).lastStart = s.lastStart ∧ (s.makeSelection p rack).pending = s.pending := by
  simp [State.makeSelection]

@[simp] theorem State.unlatch_frame (s : State) (i : BinIdx) :
    (s.unlatch i).clock = s.clock ∧ (s.unlatch i).power = s.power ∧ (s.unlatch i).marker = s.marker ∧
    (s.unlatch i).config = s.config ∧ (s.unlatch i).register = s.register ∧ (s.unlatch i).alloc = s.alloc ∧
    (s.unlatch i).depositors = s.depositors ∧ (s.unlatch i).laneA = s.laneA ∧ (s.unlatch i).laneB = s.laneB ∧
    (s.unlatch i).diverter = s.diverter ∧ (s.unlatch i).levels = s.levels ∧ (s.unlatch i).windows = s.windows ∧
    (s.unlatch i).selection = s.selection ∧ (s.unlatch i).sweep = s.sweep ∧ (s.unlatch i).strays = s.strays ∧
    (s.unlatch i).manifest = s.manifest ∧ (s.unlatch i).branch = s.branch ∧ (s.unlatch i).security = s.security ∧
    (s.unlatch i).courier = s.courier ∧ (s.unlatch i).lastStart = s.lastStart ∧ (s.unlatch i).pending = s.pending := by
  and_intros <;> simp only [State.unlatch] <;> split <;> simp

@[simp] theorem State.relatchClosed_frame (s : State) (i : BinIdx) :
    (s.relatchClosed i).clock = s.clock ∧ (s.relatchClosed i).power = s.power ∧
    (s.relatchClosed i).marker = s.marker ∧ (s.relatchClosed i).config = s.config ∧
    (s.relatchClosed i).register = s.register ∧ (s.relatchClosed i).alloc = s.alloc ∧
    (s.relatchClosed i).depositors = s.depositors ∧ (s.relatchClosed i).laneA = s.laneA ∧
    (s.relatchClosed i).laneB = s.laneB ∧ (s.relatchClosed i).diverter = s.diverter ∧
    (s.relatchClosed i).levels = s.levels ∧ (s.relatchClosed i).windows = s.windows ∧
    (s.relatchClosed i).selection = s.selection ∧ (s.relatchClosed i).sweep = s.sweep ∧
    (s.relatchClosed i).strays = s.strays ∧ (s.relatchClosed i).manifest = s.manifest ∧
    (s.relatchClosed i).branch = s.branch ∧ (s.relatchClosed i).security = s.security ∧
    (s.relatchClosed i).courier = s.courier ∧ (s.relatchClosed i).lastStart = s.lastStart ∧
    (s.relatchClosed i).pending = s.pending := by
  and_intros <;> simp only [State.relatchClosed] <;> split <;> simp

@[simp] theorem State.waitForDoor_frame (s : State) (i : BinIdx) :
    (s.waitForDoor i).clock = s.clock ∧ (s.waitForDoor i).power = s.power ∧ (s.waitForDoor i).marker = s.marker ∧
    (s.waitForDoor i).config = s.config ∧ (s.waitForDoor i).register = s.register ∧
    (s.waitForDoor i).alloc = s.alloc ∧ (s.waitForDoor i).depositors = s.depositors ∧
    (s.waitForDoor i).laneA = s.laneA ∧ (s.waitForDoor i).laneB = s.laneB ∧ (s.waitForDoor i).diverter = s.diverter ∧
    (s.waitForDoor i).levels = s.levels ∧ (s.waitForDoor i).windows = s.windows ∧
    (s.waitForDoor i).selection = s.selection ∧ (s.waitForDoor i).sweep = s.sweep ∧
    (s.waitForDoor i).strays = s.strays ∧ (s.waitForDoor i).manifest = s.manifest ∧
    (s.waitForDoor i).branch = s.branch ∧ (s.waitForDoor i).security = s.security ∧
    (s.waitForDoor i).courier = s.courier ∧ (s.waitForDoor i).lastStart = s.lastStart ∧
    (s.waitForDoor i).pending = s.pending := by
  and_intros <;> simp only [State.waitForDoor] <;> split <;> simp

@[simp] theorem State.withdrawBin_frame (s : State) (i : BinIdx) :
    (s.withdrawBin i).clock = s.clock ∧ (s.withdrawBin i).marker = s.marker ∧ (s.withdrawBin i).config = s.config ∧
    (s.withdrawBin i).register = s.register ∧ (s.withdrawBin i).alloc = s.alloc ∧
    (s.withdrawBin i).depositors = s.depositors ∧ (s.withdrawBin i).laneA = s.laneA ∧
    (s.withdrawBin i).laneB = s.laneB ∧ (s.withdrawBin i).diverter = s.diverter ∧
    (s.withdrawBin i).levels = s.levels ∧ (s.withdrawBin i).windows = s.windows ∧
    (s.withdrawBin i).strays = s.strays ∧ (s.withdrawBin i).manifest = s.manifest ∧
    (s.withdrawBin i).lastStart = s.lastStart ∧ (s.withdrawBin i).pending = s.pending := by
  simp [State.withdrawBin]

@[simp] theorem State.clearOldest_frame (s : State) (n : Nat) :
    (s.clearOldest n).clock = s.clock ∧ (s.clearOldest n).power = s.power ∧ (s.clearOldest n).marker = s.marker ∧
    (s.clearOldest n).config = s.config ∧ (s.clearOldest n).register = s.register ∧ (s.clearOldest n).bins = s.bins ∧
    (s.clearOldest n).alloc = s.alloc ∧ (s.clearOldest n).depositors = s.depositors ∧
    (s.clearOldest n).laneA = s.laneA ∧ (s.clearOldest n).laneB = s.laneB ∧ (s.clearOldest n).diverter = s.diverter ∧
    (s.clearOldest n).levels = s.levels ∧ (s.clearOldest n).windows = s.windows ∧
    (s.clearOldest n).selection = s.selection ∧ (s.clearOldest n).sweep = s.sweep ∧
    (s.clearOldest n).manifest = s.manifest ∧ (s.clearOldest n).branch = s.branch ∧
    (s.clearOldest n).security = s.security ∧ (s.clearOldest n).courier = s.courier ∧
    (s.clearOldest n).lastStart = s.lastStart ∧ (s.clearOldest n).pending = s.pending := by
  simp [State.clearOldest]

@[simp] theorem State.take_frame (s : State) (r : BagRecord) :
    (s.take r).clock = s.clock ∧ (s.take r).power = s.power ∧ (s.take r).marker = s.marker ∧
    (s.take r).config = s.config ∧ (s.take r).alloc = s.alloc ∧ (s.take r).depositors = s.depositors ∧
    (s.take r).laneA = s.laneA ∧ (s.take r).laneB = s.laneB ∧ (s.take r).diverter = s.diverter ∧
    (s.take r).levels = s.levels ∧ (s.take r).windows = s.windows ∧ (s.take r).selection = s.selection ∧
    (s.take r).sweep = s.sweep ∧ (s.take r).strays = s.strays ∧ (s.take r).branch = s.branch ∧
    (s.take r).security = s.security ∧ (s.take r).courier = s.courier ∧ (s.take r).lastStart = s.lastStart ∧
    (s.take r).pending = s.pending := by
  and_intros <;> simp only [State.take] <;> split <;> simp

@[simp] theorem State.putBack_frame (s : State) (r : BagRecord) (i : BinIdx) :
    (s.putBack r i).clock = s.clock ∧ (s.putBack r i).power = s.power ∧ (s.putBack r i).marker = s.marker ∧
    (s.putBack r i).config = s.config ∧ (s.putBack r i).alloc = s.alloc ∧ (s.putBack r i).depositors = s.depositors ∧
    (s.putBack r i).laneA = s.laneA ∧ (s.putBack r i).laneB = s.laneB ∧ (s.putBack r i).diverter = s.diverter ∧
    (s.putBack r i).levels = s.levels ∧ (s.putBack r i).windows = s.windows ∧
    (s.putBack r i).selection = s.selection ∧ (s.putBack r i).sweep = s.sweep ∧ (s.putBack r i).strays = s.strays ∧
    (s.putBack r i).manifest = s.manifest ∧ (s.putBack r i).branch = s.branch ∧
    (s.putBack r i).security = s.security ∧ (s.putBack r i).courier = s.courier ∧
    (s.putBack r i).lastStart = s.lastStart ∧ (s.putBack r i).pending = s.pending := by
  simp [State.putBack]

@[simp] theorem State.post_frame (s : State) (r : BagRecord) (counted : Nat) :
    (s.post r counted).clock = s.clock ∧ (s.post r counted).power = s.power ∧ (s.post r counted).marker = s.marker ∧
    (s.post r counted).config = s.config ∧ (s.post r counted).bins = s.bins ∧ (s.post r counted).alloc = s.alloc ∧
    (s.post r counted).laneA = s.laneA ∧ (s.post r counted).laneB = s.laneB ∧
    (s.post r counted).diverter = s.diverter ∧ (s.post r counted).levels = s.levels ∧
    (s.post r counted).windows = s.windows ∧ (s.post r counted).selection = s.selection ∧
    (s.post r counted).sweep = s.sweep ∧ (s.post r counted).strays = s.strays ∧
    (s.post r counted).manifest = s.manifest ∧ (s.post r counted).branch = s.branch ∧
    (s.post r counted).security = s.security ∧ (s.post r counted).courier = s.courier ∧
    (s.post r counted).lastStart = s.lastStart ∧ (s.post r counted).pending = s.pending := by
  simp [State.post]

@[simp] theorem State.retire_frame (s : State) (r : BagRecord) :
    (s.retire r).clock = s.clock ∧ (s.retire r).power = s.power ∧ (s.retire r).marker = s.marker ∧
    (s.retire r).config = s.config ∧ (s.retire r).bins = s.bins ∧ (s.retire r).alloc = s.alloc ∧
    (s.retire r).laneA = s.laneA ∧ (s.retire r).laneB = s.laneB ∧ (s.retire r).diverter = s.diverter ∧
    (s.retire r).levels = s.levels ∧ (s.retire r).windows = s.windows ∧ (s.retire r).selection = s.selection ∧
    (s.retire r).sweep = s.sweep ∧ (s.retire r).strays = s.strays ∧ (s.retire r).manifest = s.manifest ∧
    (s.retire r).branch = s.branch ∧ (s.retire r).security = s.security ∧ (s.retire r).courier = s.courier ∧
    (s.retire r).lastStart = s.lastStart ∧ (s.retire r).pending = s.pending := by
  simp [State.retire]

@[simp] theorem State.setCursor_frame (s : State) (c : Option Cursor) :
    (s.setCursor c).clock = s.clock ∧ (s.setCursor c).power = s.power ∧ (s.setCursor c).marker = s.marker ∧
    (s.setCursor c).config = s.config ∧ (s.setCursor c).register = s.register ∧ (s.setCursor c).bins = s.bins ∧
    (s.setCursor c).alloc = s.alloc ∧ (s.setCursor c).depositors = s.depositors ∧ (s.setCursor c).laneA = s.laneA ∧
    (s.setCursor c).laneB = s.laneB ∧ (s.setCursor c).diverter = s.diverter ∧ (s.setCursor c).levels = s.levels ∧
    (s.setCursor c).windows = s.windows ∧ (s.setCursor c).selection = s.selection ∧ (s.setCursor c).sweep = s.sweep ∧
    (s.setCursor c).strays = s.strays ∧ (s.setCursor c).manifest = s.manifest ∧
    (s.setCursor c).security = s.security ∧ (s.setCursor c).courier = s.courier ∧
    (s.setCursor c).lastStart = s.lastStart ∧ (s.setCursor c).pending = s.pending := by
  simp [State.setCursor]

@[simp] theorem State.listRecord_frame (s : State) (r : BagRecord) (n : Nat) :
    (s.listRecord r n).clock = s.clock ∧ (s.listRecord r n).power = s.power ∧ (s.listRecord r n).marker = s.marker ∧
    (s.listRecord r n).config = s.config ∧ (s.listRecord r n).bins = s.bins ∧ (s.listRecord r n).alloc = s.alloc ∧
    (s.listRecord r n).depositors = s.depositors ∧ (s.listRecord r n).laneA = s.laneA ∧
    (s.listRecord r n).laneB = s.laneB ∧ (s.listRecord r n).diverter = s.diverter ∧
    (s.listRecord r n).levels = s.levels ∧ (s.listRecord r n).windows = s.windows ∧
    (s.listRecord r n).selection = s.selection ∧ (s.listRecord r n).sweep = s.sweep ∧
    (s.listRecord r n).strays = s.strays ∧ (s.listRecord r n).branch = s.branch ∧
    (s.listRecord r n).security = s.security ∧ (s.listRecord r n).courier = s.courier ∧
    (s.listRecord r n).lastStart = s.lastStart ∧ (s.listRecord r n).pending = s.pending := by
  simp [State.listRecord]

@[simp] theorem State.unlistRecord_frame (s : State) (r : BagRecord) (n : Nat) :
    (s.unlistRecord r n).clock = s.clock ∧ (s.unlistRecord r n).power = s.power ∧
    (s.unlistRecord r n).marker = s.marker ∧ (s.unlistRecord r n).config = s.config ∧
    (s.unlistRecord r n).bins = s.bins ∧ (s.unlistRecord r n).alloc = s.alloc ∧
    (s.unlistRecord r n).depositors = s.depositors ∧ (s.unlistRecord r n).laneA = s.laneA ∧
    (s.unlistRecord r n).laneB = s.laneB ∧ (s.unlistRecord r n).diverter = s.diverter ∧
    (s.unlistRecord r n).levels = s.levels ∧ (s.unlistRecord r n).windows = s.windows ∧
    (s.unlistRecord r n).selection = s.selection ∧ (s.unlistRecord r n).sweep = s.sweep ∧
    (s.unlistRecord r n).strays = s.strays ∧ (s.unlistRecord r n).branch = s.branch ∧
    (s.unlistRecord r n).security = s.security ∧ (s.unlistRecord r n).courier = s.courier ∧
    (s.unlistRecord r n).lastStart = s.lastStart ∧ (s.unlistRecord r n).pending = s.pending := by
  simp [State.unlistRecord]

@[simp] theorem State.logIn_frame (s : State) :
    (s.logIn).clock = s.clock ∧ (s.logIn).marker = s.marker ∧ (s.logIn).config = s.config ∧
    (s.logIn).diverter = s.diverter ∧ (s.logIn).windows = s.windows ∧ (s.logIn).strays = s.strays ∧
    (s.logIn).lastStart = s.lastStart ∧ (s.logIn).pending = s.pending := by
  simp [State.logIn]

@[simp] theorem State.release_frame (s : State) (r : BagRecord) :
    (s.release r).clock = s.clock ∧ (s.release r).power = s.power ∧ (s.release r).marker = s.marker ∧
    (s.release r).config = s.config ∧ (s.release r).alloc = s.alloc ∧ (s.release r).depositors = s.depositors ∧
    (s.release r).laneA = s.laneA ∧ (s.release r).laneB = s.laneB ∧ (s.release r).diverter = s.diverter ∧
    (s.release r).levels = s.levels ∧ (s.release r).windows = s.windows ∧ (s.release r).selection = s.selection ∧
    (s.release r).sweep = s.sweep ∧ (s.release r).strays = s.strays ∧ (s.release r).branch = s.branch ∧
    (s.release r).security = s.security ∧ (s.release r).courier = s.courier ∧ (s.release r).lastStart = s.lastStart ∧
    (s.release r).pending = s.pending := by
  simp [State.release]

@[simp] theorem State.flagScan_frame (s : State) (r : BagRecord) :
    (s.flagScan r).clock = s.clock ∧ (s.flagScan r).power = s.power ∧ (s.flagScan r).marker = s.marker ∧
    (s.flagScan r).config = s.config ∧ (s.flagScan r).bins = s.bins ∧ (s.flagScan r).alloc = s.alloc ∧
    (s.flagScan r).depositors = s.depositors ∧ (s.flagScan r).laneA = s.laneA ∧ (s.flagScan r).laneB = s.laneB ∧
    (s.flagScan r).diverter = s.diverter ∧ (s.flagScan r).levels = s.levels ∧ (s.flagScan r).windows = s.windows ∧
    (s.flagScan r).selection = s.selection ∧ (s.flagScan r).sweep = s.sweep ∧ (s.flagScan r).strays = s.strays ∧
    (s.flagScan r).manifest = s.manifest ∧ (s.flagScan r).lastStart = s.lastStart ∧
    (s.flagScan r).pending = s.pending := by
  simp [State.flagScan]

@[simp] theorem State.reclassify_frame (s : State) :
    (s.reclassify).clock = s.clock ∧ (s.reclassify).power = s.power ∧ (s.reclassify).marker = s.marker ∧
    (s.reclassify).config = s.config ∧ (s.reclassify).register = s.register ∧ (s.reclassify).alloc = s.alloc ∧
    (s.reclassify).depositors = s.depositors ∧ (s.reclassify).laneA = s.laneA ∧ (s.reclassify).laneB = s.laneB ∧
    (s.reclassify).diverter = s.diverter ∧ (s.reclassify).levels = s.levels ∧ (s.reclassify).windows = s.windows ∧
    (s.reclassify).selection = s.selection ∧ (s.reclassify).sweep = s.sweep ∧ (s.reclassify).strays = s.strays ∧
    (s.reclassify).manifest = s.manifest ∧ (s.reclassify).branch = s.branch ∧ (s.reclassify).security = s.security ∧
    (s.reclassify).courier = s.courier ∧ (s.reclassify).lastStart = s.lastStart ∧ (s.reclassify).pending = s.pending := by
  simp only [State.reclassify]
  exact ⟨foldl_keeps _ State.clock (by simp) _ s,
    foldl_keeps _ State.power (by simp) _ s,
    foldl_keeps _ State.marker (by simp) _ s,
    foldl_keeps _ State.config (by simp) _ s,
    foldl_keeps _ State.register (by simp) _ s,
    foldl_keeps _ State.alloc (by simp) _ s,
    foldl_keeps _ State.depositors (by simp) _ s,
    foldl_keeps _ State.laneA (by simp) _ s,
    foldl_keeps _ State.laneB (by simp) _ s,
    foldl_keeps _ State.diverter (by simp) _ s,
    foldl_keeps _ State.levels (by simp) _ s,
    foldl_keeps _ State.windows (by simp) _ s,
    foldl_keeps _ State.selection (by simp) _ s,
    foldl_keeps _ State.sweep (by simp) _ s,
    foldl_keeps _ State.strays (by simp) _ s,
    foldl_keeps _ State.manifest (by simp) _ s,
    foldl_keeps _ State.branch (by simp) _ s,
    foldl_keeps _ State.security (by simp) _ s,
    foldl_keeps _ State.courier (by simp) _ s,
    foldl_keeps _ State.lastStart (by simp) _ s,
    foldl_keeps _ State.pending (by simp) _ s⟩

@[simp] theorem State.changeInspectRacks_frame (s : State) :
    (s.changeInspectRacks).clock = s.clock ∧ (s.changeInspectRacks).power = s.power ∧
    (s.changeInspectRacks).marker = s.marker ∧ (s.changeInspectRacks).config = s.config ∧
    (s.changeInspectRacks).register = s.register ∧ (s.changeInspectRacks).depositors = s.depositors ∧
    (s.changeInspectRacks).laneA = s.laneA ∧ (s.changeInspectRacks).laneB = s.laneB ∧
    (s.changeInspectRacks).diverter = s.diverter ∧ (s.changeInspectRacks).levels = s.levels ∧
    (s.changeInspectRacks).windows = s.windows ∧ (s.changeInspectRacks).selection = s.selection ∧
    (s.changeInspectRacks).sweep = s.sweep ∧ (s.changeInspectRacks).strays = s.strays ∧
    (s.changeInspectRacks).manifest = s.manifest ∧ (s.changeInspectRacks).branch = s.branch ∧
    (s.changeInspectRacks).security = s.security ∧ (s.changeInspectRacks).courier = s.courier ∧
    (s.changeInspectRacks).lastStart = s.lastStart ∧ (s.changeInspectRacks).pending = s.pending := by
  simp [State.changeInspectRacks]

@[simp] theorem State.configure_frame (s : State) (c : ConfigWord) :
    (s.configure c).clock = s.clock ∧ (s.configure c).marker = s.marker ∧ (s.configure c).diverter = s.diverter ∧
    (s.configure c).windows = s.windows ∧ (s.configure c).strays = s.strays ∧ (s.configure c).manifest = s.manifest ∧
    (s.configure c).lastStart = s.lastStart ∧ (s.configure c).pending = s.pending := by
  and_intros <;> simp only [State.configure] <;> (repeat' split) <;> simp

@[simp] theorem State.firstSetting_frame (s : State) (wasSet : Bool) :
    (s.firstSetting wasSet).clock = s.clock ∧ (s.firstSetting wasSet).power = s.power ∧
    (s.firstSetting wasSet).marker = s.marker ∧ (s.firstSetting wasSet).config = s.config ∧
    (s.firstSetting wasSet).register = s.register ∧ (s.firstSetting wasSet).bins = s.bins ∧
    (s.firstSetting wasSet).alloc = s.alloc ∧ (s.firstSetting wasSet).depositors = s.depositors ∧
    (s.firstSetting wasSet).laneA = s.laneA ∧ (s.firstSetting wasSet).laneB = s.laneB ∧
    (s.firstSetting wasSet).diverter = s.diverter ∧ (s.firstSetting wasSet).levels = s.levels ∧
    (s.firstSetting wasSet).windows = s.windows ∧ (s.firstSetting wasSet).selection = s.selection ∧
    (s.firstSetting wasSet).strays = s.strays ∧ (s.firstSetting wasSet).manifest = s.manifest ∧
    (s.firstSetting wasSet).branch = s.branch ∧ (s.firstSetting wasSet).security = s.security ∧
    (s.firstSetting wasSet).courier = s.courier ∧ (s.firstSetting wasSet).lastStart = s.lastStart ∧
    (s.firstSetting wasSet).pending = s.pending := by
  and_intros <;> simp only [State.firstSetting] <;> split <;> simp

@[simp] theorem State.setClock_frame (s : State) (day second : Nat) :
    (s.setClock day second).marker = s.marker ∧ (s.setClock day second).config = s.config ∧
    (s.setClock day second).diverter = s.diverter ∧ (s.setClock day second).windows = s.windows ∧
    (s.setClock day second).strays = s.strays ∧ (s.setClock day second).manifest = s.manifest ∧
    (s.setClock day second).lastStart = s.lastStart ∧ (s.setClock day second).pending = s.pending := by
  simp [State.setClock]

/-! ### Links -/

@[simp] theorem State.hunt_frame (s : State) (l : Link) :
    (s.hunt l).clock = s.clock ∧ (s.hunt l).power = s.power ∧ (s.hunt l).marker = s.marker ∧
    (s.hunt l).config = s.config ∧ (s.hunt l).register = s.register ∧ (s.hunt l).bins = s.bins ∧
    (s.hunt l).alloc = s.alloc ∧ (s.hunt l).depositors = s.depositors ∧ (s.hunt l).laneA = s.laneA ∧
    (s.hunt l).laneB = s.laneB ∧ (s.hunt l).diverter = s.diverter ∧ (s.hunt l).levels = s.levels ∧
    (s.hunt l).windows = s.windows ∧ (s.hunt l).selection = s.selection ∧ (s.hunt l).sweep = s.sweep ∧
    (s.hunt l).strays = s.strays ∧ (s.hunt l).manifest = s.manifest ∧ (s.hunt l).lastStart = s.lastStart ∧
    (s.hunt l).pending = s.pending := by
  simp [State.hunt]

@[simp] theorem State.resetLink_frame (s : State) (l : Link) :
    (s.resetLink l).clock = s.clock ∧ (s.resetLink l).marker = s.marker ∧ (s.resetLink l).config = s.config ∧
    (s.resetLink l).diverter = s.diverter ∧ (s.resetLink l).windows = s.windows ∧ (s.resetLink l).strays = s.strays ∧
    (s.resetLink l).lastStart = s.lastStart ∧ (s.resetLink l).pending = s.pending := by
  and_intros <;> simp only [State.resetLink] <;> split <;> simp

@[simp] theorem State.enterSpace_frame (s : State) (l : Link) :
    (s.enterSpace l).clock = s.clock ∧ (s.enterSpace l).power = s.power ∧ (s.enterSpace l).marker = s.marker ∧
    (s.enterSpace l).config = s.config ∧ (s.enterSpace l).register = s.register ∧ (s.enterSpace l).bins = s.bins ∧
    (s.enterSpace l).alloc = s.alloc ∧ (s.enterSpace l).depositors = s.depositors ∧
    (s.enterSpace l).laneA = s.laneA ∧ (s.enterSpace l).laneB = s.laneB ∧ (s.enterSpace l).diverter = s.diverter ∧
    (s.enterSpace l).levels = s.levels ∧ (s.enterSpace l).windows = s.windows ∧
    (s.enterSpace l).selection = s.selection ∧ (s.enterSpace l).sweep = s.sweep ∧
    (s.enterSpace l).strays = s.strays ∧ (s.enterSpace l).manifest = s.manifest ∧
    (s.enterSpace l).lastStart = s.lastStart ∧ (s.enterSpace l).pending = s.pending := by
  and_intros <;> simp only [State.enterSpace] <;> split <;> simp

@[simp] theorem State.returnToMark_frame (s : State) (l : Link) :
    (s.returnToMark l).clock = s.clock ∧ (s.returnToMark l).power = s.power ∧ (s.returnToMark l).marker = s.marker ∧
    (s.returnToMark l).config = s.config ∧ (s.returnToMark l).register = s.register ∧
    (s.returnToMark l).bins = s.bins ∧ (s.returnToMark l).alloc = s.alloc ∧
    (s.returnToMark l).depositors = s.depositors ∧ (s.returnToMark l).laneA = s.laneA ∧
    (s.returnToMark l).laneB = s.laneB ∧ (s.returnToMark l).diverter = s.diverter ∧
    (s.returnToMark l).levels = s.levels ∧ (s.returnToMark l).windows = s.windows ∧
    (s.returnToMark l).selection = s.selection ∧ (s.returnToMark l).sweep = s.sweep ∧
    (s.returnToMark l).strays = s.strays ∧ (s.returnToMark l).manifest = s.manifest ∧
    (s.returnToMark l).lastStart = s.lastStart ∧ (s.returnToMark l).pending = s.pending := by
  and_intros <;> simp only [State.returnToMark] <;> split <;> simp

/-! ### Lanes -/

@[simp] theorem State.showClosed_frame (s : State) (l : LaneId) :
    (s.showClosed l).clock = s.clock ∧ (s.showClosed l).power = s.power ∧
    (s.showClosed l).marker = s.marker ∧ (s.showClosed l).config = s.config ∧
    (s.showClosed l).register = s.register ∧ (s.showClosed l).bins = s.bins ∧
    (s.showClosed l).alloc = s.alloc ∧ (s.showClosed l).depositors = s.depositors ∧
    (s.showClosed l).diverter = s.diverter ∧ (s.showClosed l).levels = s.levels ∧
    (s.showClosed l).windows = s.windows ∧ (s.showClosed l).selection = s.selection ∧
    (s.showClosed l).sweep = s.sweep ∧ (s.showClosed l).strays = s.strays ∧
    (s.showClosed l).manifest = s.manifest ∧ (s.showClosed l).branch = s.branch ∧
    (s.showClosed l).security = s.security ∧ (s.showClosed l).courier = s.courier ∧
    (s.showClosed l).lastStart = s.lastStart ∧ (s.showClosed l).pending = s.pending := by
  and_intros <;> simp only [State.showClosed] <;> split <;> simp

@[simp] theorem State.refuseCard_frame (s : State) (l : LaneId) (why : CardRefusal) :
    (s.refuseCard l why).clock = s.clock ∧ (s.refuseCard l why).power = s.power ∧
    (s.refuseCard l why).marker = s.marker ∧ (s.refuseCard l why).config = s.config ∧
    (s.refuseCard l why).register = s.register ∧ (s.refuseCard l why).bins = s.bins ∧
    (s.refuseCard l why).alloc = s.alloc ∧ (s.refuseCard l why).depositors = s.depositors ∧
    (s.refuseCard l why).diverter = s.diverter ∧ (s.refuseCard l why).levels = s.levels ∧
    (s.refuseCard l why).windows = s.windows ∧ (s.refuseCard l why).selection = s.selection ∧
    (s.refuseCard l why).sweep = s.sweep ∧ (s.refuseCard l why).strays = s.strays ∧
    (s.refuseCard l why).manifest = s.manifest ∧ (s.refuseCard l why).branch = s.branch ∧
    (s.refuseCard l why).security = s.security ∧ (s.refuseCard l why).courier = s.courier ∧
    (s.refuseCard l why).lastStart = s.lastStart ∧ (s.refuseCard l why).pending = s.pending := by
  simp [State.refuseCard]

@[simp] theorem State.acceptCard_frame (s : State) (l : LaneId) (card : Card) (i : DepIdx) :
    (s.acceptCard l card i).clock = s.clock ∧ (s.acceptCard l card i).power = s.power ∧
    (s.acceptCard l card i).marker = s.marker ∧ (s.acceptCard l card i).config = s.config ∧
    (s.acceptCard l card i).register = s.register ∧ (s.acceptCard l card i).bins = s.bins ∧
    (s.acceptCard l card i).alloc = s.alloc ∧ (s.acceptCard l card i).depositors = s.depositors ∧
    (s.acceptCard l card i).diverter = s.diverter ∧ (s.acceptCard l card i).levels = s.levels ∧
    (s.acceptCard l card i).windows = s.windows ∧ (s.acceptCard l card i).selection = s.selection ∧
    (s.acceptCard l card i).sweep = s.sweep ∧ (s.acceptCard l card i).strays = s.strays ∧
    (s.acceptCard l card i).manifest = s.manifest ∧ (s.acceptCard l card i).branch = s.branch ∧
    (s.acceptCard l card i).security = s.security ∧ (s.acceptCard l card i).courier = s.courier ∧
    (s.acceptCard l card i).lastStart = s.lastStart ∧ (s.acceptCard l card i).pending = s.pending := by
  simp [State.acceptCard]

@[simp] theorem State.judgeCard_frame (s : State) (l : LaneId) (card : Card) (i : DepIdx) (d : Depositor) :
    (s.judgeCard l card i d).clock = s.clock ∧ (s.judgeCard l card i d).power = s.power ∧
    (s.judgeCard l card i d).marker = s.marker ∧ (s.judgeCard l card i d).config = s.config ∧
    (s.judgeCard l card i d).register = s.register ∧ (s.judgeCard l card i d).bins = s.bins ∧
    (s.judgeCard l card i d).alloc = s.alloc ∧ (s.judgeCard l card i d).depositors = s.depositors ∧
    (s.judgeCard l card i d).diverter = s.diverter ∧ (s.judgeCard l card i d).levels = s.levels ∧
    (s.judgeCard l card i d).windows = s.windows ∧ (s.judgeCard l card i d).selection = s.selection ∧
    (s.judgeCard l card i d).sweep = s.sweep ∧ (s.judgeCard l card i d).strays = s.strays ∧
    (s.judgeCard l card i d).manifest = s.manifest ∧ (s.judgeCard l card i d).lastStart = s.lastStart ∧
    (s.judgeCard l card i d).pending = s.pending := by
  and_intros <;> simp only [State.judgeCard] <;> (repeat' split) <;> simp

@[simp] theorem State.presentCard_frame (s : State) (l : LaneId) (card : Card) :
    (s.presentCard l card).clock = s.clock ∧ (s.presentCard l card).power = s.power ∧
    (s.presentCard l card).marker = s.marker ∧ (s.presentCard l card).config = s.config ∧
    (s.presentCard l card).register = s.register ∧ (s.presentCard l card).bins = s.bins ∧
    (s.presentCard l card).alloc = s.alloc ∧ (s.presentCard l card).diverter = s.diverter ∧
    (s.presentCard l card).levels = s.levels ∧ (s.presentCard l card).windows = s.windows ∧
    (s.presentCard l card).selection = s.selection ∧ (s.presentCard l card).sweep = s.sweep ∧
    (s.presentCard l card).strays = s.strays ∧ (s.presentCard l card).manifest = s.manifest ∧
    (s.presentCard l card).lastStart = s.lastStart ∧ (s.presentCard l card).pending = s.pending := by
  and_intros <;> simp only [State.presentCard] <;> (repeat' split) <;> simp

@[simp] theorem State.setSession_frame (s : State) (l : LaneId) (x : Session) (d : Display) :
    (s.setSession l x d).clock = s.clock ∧ (s.setSession l x d).power = s.power ∧
    (s.setSession l x d).marker = s.marker ∧ (s.setSession l x d).config = s.config ∧
    (s.setSession l x d).register = s.register ∧ (s.setSession l x d).bins = s.bins ∧
    (s.setSession l x d).alloc = s.alloc ∧ (s.setSession l x d).depositors = s.depositors ∧
    (s.setSession l x d).diverter = s.diverter ∧ (s.setSession l x d).levels = s.levels ∧
    (s.setSession l x d).windows = s.windows ∧ (s.setSession l x d).selection = s.selection ∧
    (s.setSession l x d).sweep = s.sweep ∧ (s.setSession l x d).strays = s.strays ∧
    (s.setSession l x d).manifest = s.manifest ∧ (s.setSession l x d).branch = s.branch ∧
    (s.setSession l x d).security = s.security ∧ (s.setSession l x d).courier = s.courier ∧
    (s.setSession l x d).lastStart = s.lastStart ∧ (s.setSession l x d).pending = s.pending := by
  simp [State.setSession]

@[simp] theorem State.enterLoad_frame (s : State) (l : LaneId) (x : Session) :
    (s.enterLoad l x).clock = s.clock ∧ (s.enterLoad l x).power = s.power ∧ (s.enterLoad l x).marker = s.marker ∧
    (s.enterLoad l x).config = s.config ∧ (s.enterLoad l x).register = s.register ∧ (s.enterLoad l x).bins = s.bins ∧
    (s.enterLoad l x).alloc = s.alloc ∧ (s.enterLoad l x).depositors = s.depositors ∧
    (s.enterLoad l x).diverter = s.diverter ∧ (s.enterLoad l x).levels = s.levels ∧
    (s.enterLoad l x).windows = s.windows ∧ (s.enterLoad l x).selection = s.selection ∧
    (s.enterLoad l x).sweep = s.sweep ∧ (s.enterLoad l x).strays = s.strays ∧
    (s.enterLoad l x).manifest = s.manifest ∧ (s.enterLoad l x).branch = s.branch ∧
    (s.enterLoad l x).security = s.security ∧ (s.enterLoad l x).courier = s.courier ∧
    (s.enterLoad l x).lastStart = s.lastStart ∧ (s.enterLoad l x).pending = s.pending := by
  and_intros <;> simp only [State.enterLoad] <;> split <;> simp

@[simp] theorem State.refuseDeclaration_frame (s : State) (l : LaneId) (x : Session) (why : DeclRefusal) :
    (s.refuseDeclaration l x why).clock = s.clock ∧ (s.refuseDeclaration l x why).power = s.power ∧
    (s.refuseDeclaration l x why).marker = s.marker ∧ (s.refuseDeclaration l x why).config = s.config ∧
    (s.refuseDeclaration l x why).register = s.register ∧ (s.refuseDeclaration l x why).bins = s.bins ∧
    (s.refuseDeclaration l x why).alloc = s.alloc ∧ (s.refuseDeclaration l x why).depositors = s.depositors ∧
    (s.refuseDeclaration l x why).diverter = s.diverter ∧ (s.refuseDeclaration l x why).levels = s.levels ∧
    (s.refuseDeclaration l x why).windows = s.windows ∧ (s.refuseDeclaration l x why).selection = s.selection ∧
    (s.refuseDeclaration l x why).sweep = s.sweep ∧ (s.refuseDeclaration l x why).strays = s.strays ∧
    (s.refuseDeclaration l x why).manifest = s.manifest ∧ (s.refuseDeclaration l x why).branch = s.branch ∧
    (s.refuseDeclaration l x why).security = s.security ∧ (s.refuseDeclaration l x why).courier = s.courier ∧
    (s.refuseDeclaration l x why).lastStart = s.lastStart ∧ (s.refuseDeclaration l x why).pending = s.pending := by
  and_intros <;> simp only [State.refuseDeclaration] <;> split <;> simp

@[simp] theorem State.testDeclaration_frame (s : State) (l : LaneId) (x : Session) :
    (s.testDeclaration l x).clock = s.clock ∧ (s.testDeclaration l x).power = s.power ∧
    (s.testDeclaration l x).marker = s.marker ∧ (s.testDeclaration l x).config = s.config ∧
    (s.testDeclaration l x).register = s.register ∧ (s.testDeclaration l x).bins = s.bins ∧
    (s.testDeclaration l x).alloc = s.alloc ∧ (s.testDeclaration l x).depositors = s.depositors ∧
    (s.testDeclaration l x).diverter = s.diverter ∧ (s.testDeclaration l x).levels = s.levels ∧
    (s.testDeclaration l x).windows = s.windows ∧ (s.testDeclaration l x).selection = s.selection ∧
    (s.testDeclaration l x).sweep = s.sweep ∧ (s.testDeclaration l x).strays = s.strays ∧
    (s.testDeclaration l x).manifest = s.manifest ∧ (s.testDeclaration l x).branch = s.branch ∧
    (s.testDeclaration l x).security = s.security ∧ (s.testDeclaration l x).courier = s.courier ∧
    (s.testDeclaration l x).lastStart = s.lastStart ∧ (s.testDeclaration l x).pending = s.pending := by
  and_intros <;> simp only [State.testDeclaration] <;> split <;> (try split) <;> simp

@[simp] theorem State.keepAmount_frame (s : State) (l : LaneId) (x : Session) (v : Nat) :
    (s.keepAmount l x v).clock = s.clock ∧ (s.keepAmount l x v).power = s.power ∧
    (s.keepAmount l x v).marker = s.marker ∧ (s.keepAmount l x v).config = s.config ∧
    (s.keepAmount l x v).register = s.register ∧ (s.keepAmount l x v).bins = s.bins ∧
    (s.keepAmount l x v).alloc = s.alloc ∧ (s.keepAmount l x v).depositors = s.depositors ∧
    (s.keepAmount l x v).diverter = s.diverter ∧ (s.keepAmount l x v).levels = s.levels ∧
    (s.keepAmount l x v).windows = s.windows ∧ (s.keepAmount l x v).selection = s.selection ∧
    (s.keepAmount l x v).sweep = s.sweep ∧ (s.keepAmount l x v).strays = s.strays ∧
    (s.keepAmount l x v).manifest = s.manifest ∧ (s.keepAmount l x v).branch = s.branch ∧
    (s.keepAmount l x v).security = s.security ∧ (s.keepAmount l x v).courier = s.courier ∧
    (s.keepAmount l x v).lastStart = s.lastStart ∧ (s.keepAmount l x v).pending = s.pending := by
  and_intros <;> simp only [State.keepAmount] <;> split <;> simp

@[simp] theorem State.offerAmount_frame (s : State) (l : LaneId) (x : Session) :
    (s.offerAmount l x).clock = s.clock ∧ (s.offerAmount l x).power = s.power ∧
    (s.offerAmount l x).marker = s.marker ∧ (s.offerAmount l x).config = s.config ∧
    (s.offerAmount l x).register = s.register ∧ (s.offerAmount l x).bins = s.bins ∧
    (s.offerAmount l x).alloc = s.alloc ∧ (s.offerAmount l x).depositors = s.depositors ∧
    (s.offerAmount l x).diverter = s.diverter ∧ (s.offerAmount l x).levels = s.levels ∧
    (s.offerAmount l x).windows = s.windows ∧ (s.offerAmount l x).selection = s.selection ∧
    (s.offerAmount l x).sweep = s.sweep ∧ (s.offerAmount l x).strays = s.strays ∧
    (s.offerAmount l x).manifest = s.manifest ∧ (s.offerAmount l x).branch = s.branch ∧
    (s.offerAmount l x).security = s.security ∧ (s.offerAmount l x).courier = s.courier ∧
    (s.offerAmount l x).lastStart = s.lastStart ∧ (s.offerAmount l x).pending = s.pending := by
  and_intros <;> simp only [State.offerAmount] <;> split <;> simp

@[simp] theorem State.actKey_frame (s : State) (l : LaneId) (x : Session) (k : Key) :
    (s.actKey l x k).clock = s.clock ∧ (s.actKey l x k).power = s.power ∧ (s.actKey l x k).marker = s.marker ∧
    (s.actKey l x k).config = s.config ∧ (s.actKey l x k).register = s.register ∧ (s.actKey l x k).bins = s.bins ∧
    (s.actKey l x k).alloc = s.alloc ∧ (s.actKey l x k).depositors = s.depositors ∧
    (s.actKey l x k).diverter = s.diverter ∧ (s.actKey l x k).levels = s.levels ∧
    (s.actKey l x k).windows = s.windows ∧ (s.actKey l x k).selection = s.selection ∧
    (s.actKey l x k).sweep = s.sweep ∧ (s.actKey l x k).strays = s.strays ∧ (s.actKey l x k).manifest = s.manifest ∧
    (s.actKey l x k).branch = s.branch ∧ (s.actKey l x k).security = s.security ∧
    (s.actKey l x k).courier = s.courier ∧ (s.actKey l x k).lastStart = s.lastStart ∧
    (s.actKey l x k).pending = s.pending := by
  and_intros <;> simp only [State.actKey] <;> split <;> simp

@[simp] theorem State.boltConfirmed_frame (s : State) (l : LaneId) (wantLocked : Bool) :
    (s.boltConfirmed l wantLocked).clock = s.clock ∧ (s.boltConfirmed l wantLocked).power = s.power ∧
    (s.boltConfirmed l wantLocked).marker = s.marker ∧ (s.boltConfirmed l wantLocked).config = s.config ∧
    (s.boltConfirmed l wantLocked).register = s.register ∧ (s.boltConfirmed l wantLocked).bins = s.bins ∧
    (s.boltConfirmed l wantLocked).alloc = s.alloc ∧ (s.boltConfirmed l wantLocked).depositors = s.depositors ∧
    (s.boltConfirmed l wantLocked).diverter = s.diverter ∧ (s.boltConfirmed l wantLocked).levels = s.levels ∧
    (s.boltConfirmed l wantLocked).windows = s.windows ∧ (s.boltConfirmed l wantLocked).selection = s.selection ∧
    (s.boltConfirmed l wantLocked).sweep = s.sweep ∧ (s.boltConfirmed l wantLocked).strays = s.strays ∧
    (s.boltConfirmed l wantLocked).manifest = s.manifest ∧ (s.boltConfirmed l wantLocked).branch = s.branch ∧
    (s.boltConfirmed l wantLocked).security = s.security ∧ (s.boltConfirmed l wantLocked).courier = s.courier ∧
    (s.boltConfirmed l wantLocked).lastStart = s.lastStart ∧ (s.boltConfirmed l wantLocked).pending = s.pending := by
  and_intros <;> simp only [State.boltConfirmed] <;> split <;> simp

@[simp] theorem State.lockedChanged_frame (s : State) (l : LaneId) (v : Bool) :
    (s.lockedChanged l v).clock = s.clock ∧ (s.lockedChanged l v).power = s.power ∧
    (s.lockedChanged l v).marker = s.marker ∧ (s.lockedChanged l v).config = s.config ∧
    (s.lockedChanged l v).register = s.register ∧ (s.lockedChanged l v).bins = s.bins ∧
    (s.lockedChanged l v).alloc = s.alloc ∧ (s.lockedChanged l v).depositors = s.depositors ∧
    (s.lockedChanged l v).diverter = s.diverter ∧ (s.lockedChanged l v).levels = s.levels ∧
    (s.lockedChanged l v).windows = s.windows ∧ (s.lockedChanged l v).selection = s.selection ∧
    (s.lockedChanged l v).sweep = s.sweep ∧ (s.lockedChanged l v).strays = s.strays ∧
    (s.lockedChanged l v).manifest = s.manifest ∧ (s.lockedChanged l v).branch = s.branch ∧
    (s.lockedChanged l v).security = s.security ∧ (s.lockedChanged l v).courier = s.courier ∧
    (s.lockedChanged l v).lastStart = s.lastStart ∧ (s.lockedChanged l v).pending = s.pending := by
  and_intros <;> simp only [State.lockedChanged] <;> split <;> (try split) <;> simp

@[simp] theorem State.loaded_frame (s : State) (l : LaneId) :
    (s.loaded l).clock = s.clock ∧ (s.loaded l).power = s.power ∧ (s.loaded l).marker = s.marker ∧
    (s.loaded l).config = s.config ∧ (s.loaded l).register = s.register ∧ (s.loaded l).bins = s.bins ∧
    (s.loaded l).alloc = s.alloc ∧ (s.loaded l).depositors = s.depositors ∧ (s.loaded l).diverter = s.diverter ∧
    (s.loaded l).levels = s.levels ∧ (s.loaded l).windows = s.windows ∧ (s.loaded l).selection = s.selection ∧
    (s.loaded l).sweep = s.sweep ∧ (s.loaded l).strays = s.strays ∧ (s.loaded l).manifest = s.manifest ∧
    (s.loaded l).branch = s.branch ∧ (s.loaded l).security = s.security ∧ (s.loaded l).courier = s.courier ∧
    (s.loaded l).lastStart = s.lastStart ∧ (s.loaded l).pending = s.pending := by
  and_intros <;> simp only [State.loaded] <;> split <;> simp

@[simp] theorem State.loadOrShut_frame (s : State) (l : LaneId) :
    (s.loadOrShut l).clock = s.clock ∧ (s.loadOrShut l).power = s.power ∧ (s.loadOrShut l).marker = s.marker ∧
    (s.loadOrShut l).config = s.config ∧ (s.loadOrShut l).register = s.register ∧ (s.loadOrShut l).bins = s.bins ∧
    (s.loadOrShut l).alloc = s.alloc ∧ (s.loadOrShut l).depositors = s.depositors ∧
    (s.loadOrShut l).diverter = s.diverter ∧ (s.loadOrShut l).levels = s.levels ∧
    (s.loadOrShut l).windows = s.windows ∧ (s.loadOrShut l).selection = s.selection ∧
    (s.loadOrShut l).sweep = s.sweep ∧ (s.loadOrShut l).strays = s.strays ∧ (s.loadOrShut l).manifest = s.manifest ∧
    (s.loadOrShut l).branch = s.branch ∧ (s.loadOrShut l).security = s.security ∧
    (s.loadOrShut l).courier = s.courier ∧ (s.loadOrShut l).lastStart = s.lastStart ∧
    (s.loadOrShut l).pending = s.pending := by
  and_intros <;> simp only [State.loadOrShut] <;> split <;> (try split) <;> simp

@[simp] theorem State.bagChanged_frame (s : State) (l : LaneId) (v : Bool) :
    (s.bagChanged l v).clock = s.clock ∧ (s.bagChanged l v).power = s.power ∧ (s.bagChanged l v).marker = s.marker ∧
    (s.bagChanged l v).config = s.config ∧ (s.bagChanged l v).register = s.register ∧
    (s.bagChanged l v).bins = s.bins ∧ (s.bagChanged l v).alloc = s.alloc ∧
    (s.bagChanged l v).depositors = s.depositors ∧ (s.bagChanged l v).diverter = s.diverter ∧
    (s.bagChanged l v).levels = s.levels ∧ (s.bagChanged l v).windows = s.windows ∧
    (s.bagChanged l v).selection = s.selection ∧ (s.bagChanged l v).sweep = s.sweep ∧
    (s.bagChanged l v).strays = s.strays ∧ (s.bagChanged l v).manifest = s.manifest ∧
    (s.bagChanged l v).branch = s.branch ∧ (s.bagChanged l v).security = s.security ∧
    (s.bagChanged l v).courier = s.courier ∧ (s.bagChanged l v).lastStart = s.lastStart ∧
    (s.bagChanged l v).pending = s.pending := by
  and_intros <;> simp only [State.bagChanged] <;> split <;> (try split) <;> simp

@[simp] theorem State.inputChanged_frame (s : State) (l : LaneId) (k : LaneInput) (v : Bool) :
    (s.inputChanged l k v).clock = s.clock ∧ (s.inputChanged l k v).power = s.power ∧
    (s.inputChanged l k v).marker = s.marker ∧ (s.inputChanged l k v).config = s.config ∧
    (s.inputChanged l k v).register = s.register ∧ (s.inputChanged l k v).bins = s.bins ∧
    (s.inputChanged l k v).alloc = s.alloc ∧ (s.inputChanged l k v).depositors = s.depositors ∧
    (s.inputChanged l k v).diverter = s.diverter ∧ (s.inputChanged l k v).levels = s.levels ∧
    (s.inputChanged l k v).windows = s.windows ∧ (s.inputChanged l k v).selection = s.selection ∧
    (s.inputChanged l k v).sweep = s.sweep ∧ (s.inputChanged l k v).strays = s.strays ∧
    (s.inputChanged l k v).manifest = s.manifest ∧ (s.inputChanged l k v).branch = s.branch ∧
    (s.inputChanged l k v).security = s.security ∧ (s.inputChanged l k v).courier = s.courier ∧
    (s.inputChanged l k v).lastStart = s.lastStart ∧ (s.inputChanged l k v).pending = s.pending := by
  and_intros <;> simp only [State.inputChanged] <;> split <;> simp

@[simp] theorem State.changeInput_frame (s : State) (l : LaneId) (k : LaneInput) (v : Bool) :
    (s.changeInput l k v).clock = s.clock ∧ (s.changeInput l k v).power = s.power ∧
    (s.changeInput l k v).marker = s.marker ∧ (s.changeInput l k v).config = s.config ∧
    (s.changeInput l k v).levels = s.levels ∧ (s.changeInput l k v).windows = s.windows ∧
    (s.changeInput l k v).selection = s.selection ∧ (s.changeInput l k v).sweep = s.sweep ∧
    (s.changeInput l k v).strays = s.strays ∧ (s.changeInput l k v).manifest = s.manifest ∧
    (s.changeInput l k v).lastStart = s.lastStart ∧ (s.changeInput l k v).pending = s.pending := by
  and_intros <;> simp only [State.changeInput] <;> split <;> simp

@[simp] theorem State.loadOver_frame (s : State) (l : LaneId) :
    (s.loadOver l).clock = s.clock ∧ (s.loadOver l).power = s.power ∧ (s.loadOver l).marker = s.marker ∧
    (s.loadOver l).config = s.config ∧ (s.loadOver l).register = s.register ∧ (s.loadOver l).bins = s.bins ∧
    (s.loadOver l).alloc = s.alloc ∧ (s.loadOver l).depositors = s.depositors ∧
    (s.loadOver l).diverter = s.diverter ∧ (s.loadOver l).levels = s.levels ∧ (s.loadOver l).windows = s.windows ∧
    (s.loadOver l).selection = s.selection ∧ (s.loadOver l).sweep = s.sweep ∧ (s.loadOver l).strays = s.strays ∧
    (s.loadOver l).manifest = s.manifest ∧ (s.loadOver l).branch = s.branch ∧ (s.loadOver l).security = s.security ∧
    (s.loadOver l).courier = s.courier ∧ (s.loadOver l).lastStart = s.lastStart ∧ (s.loadOver l).pending = s.pending := by
  and_intros <;> simp only [State.loadOver] <;> split <;> simp

@[simp] theorem State.tagLoaded_frame (s : State) (l : LaneId) (result : Option Tag) :
    (s.tagLoaded l result).clock = s.clock ∧ (s.tagLoaded l result).power = s.power ∧
    (s.tagLoaded l result).marker = s.marker ∧ (s.tagLoaded l result).config = s.config ∧
    (s.tagLoaded l result).register = s.register ∧ (s.tagLoaded l result).bins = s.bins ∧
    (s.tagLoaded l result).alloc = s.alloc ∧ (s.tagLoaded l result).depositors = s.depositors ∧
    (s.tagLoaded l result).diverter = s.diverter ∧ (s.tagLoaded l result).levels = s.levels ∧
    (s.tagLoaded l result).windows = s.windows ∧ (s.tagLoaded l result).selection = s.selection ∧
    (s.tagLoaded l result).sweep = s.sweep ∧ (s.tagLoaded l result).strays = s.strays ∧
    (s.tagLoaded l result).manifest = s.manifest ∧ (s.tagLoaded l result).branch = s.branch ∧
    (s.tagLoaded l result).security = s.security ∧ (s.tagLoaded l result).courier = s.courier ∧
    (s.tagLoaded l result).lastStart = s.lastStart ∧ (s.tagLoaded l result).pending = s.pending := by
  and_intros <;> simp only [State.tagLoaded] <;> split <;> (try split) <;> simp

@[simp] theorem State.tagFound_frame (s : State) (l : LaneId) (result : Option Tag) :
    (s.tagFound l result).clock = s.clock ∧ (s.tagFound l result).power = s.power ∧
    (s.tagFound l result).marker = s.marker ∧ (s.tagFound l result).config = s.config ∧
    (s.tagFound l result).register = s.register ∧ (s.tagFound l result).bins = s.bins ∧
    (s.tagFound l result).alloc = s.alloc ∧ (s.tagFound l result).depositors = s.depositors ∧
    (s.tagFound l result).diverter = s.diverter ∧ (s.tagFound l result).levels = s.levels ∧
    (s.tagFound l result).windows = s.windows ∧ (s.tagFound l result).selection = s.selection ∧
    (s.tagFound l result).sweep = s.sweep ∧ (s.tagFound l result).strays = s.strays ∧
    (s.tagFound l result).manifest = s.manifest ∧ (s.tagFound l result).lastStart = s.lastStart ∧
    (s.tagFound l result).pending = s.pending := by
  and_intros <;> simp only [State.tagFound] <;> split <;> simp

@[simp] theorem State.settle_frame (s : State) (l : LaneId) (capture : Reading) :
    (s.settle l capture).clock = s.clock ∧ (s.settle l capture).power = s.power ∧
    (s.settle l capture).marker = s.marker ∧ (s.settle l capture).config = s.config ∧
    (s.settle l capture).levels = s.levels ∧ (s.settle l capture).windows = s.windows ∧
    (s.settle l capture).selection = s.selection ∧ (s.settle l capture).sweep = s.sweep ∧
    (s.settle l capture).manifest = s.manifest ∧ (s.settle l capture).lastStart = s.lastStart ∧
    (s.settle l capture).pending = s.pending := by
  simp [State.settle]

@[simp] theorem State.addSample_frame (s : State) (l : LaneId) (sample : Reading) :
    (s.addSample l sample).clock = s.clock ∧ (s.addSample l sample).power = s.power ∧
    (s.addSample l sample).marker = s.marker ∧ (s.addSample l sample).config = s.config ∧
    (s.addSample l sample).levels = s.levels ∧ (s.addSample l sample).windows = s.windows ∧
    (s.addSample l sample).selection = s.selection ∧ (s.addSample l sample).sweep = s.sweep ∧
    (s.addSample l sample).manifest = s.manifest ∧ (s.addSample l sample).lastStart = s.lastStart ∧
    (s.addSample l sample).pending = s.pending := by
  and_intros <;> simp only [State.addSample] <;> split <;> simp

@[simp] theorem State.weighOver_frame (s : State) (l : LaneId) :
    (s.weighOver l).clock = s.clock ∧ (s.weighOver l).power = s.power ∧ (s.weighOver l).marker = s.marker ∧
    (s.weighOver l).config = s.config ∧ (s.weighOver l).diverter = s.diverter ∧ (s.weighOver l).levels = s.levels ∧
    (s.weighOver l).windows = s.windows ∧ (s.weighOver l).selection = s.selection ∧ (s.weighOver l).sweep = s.sweep ∧
    (s.weighOver l).strays = s.strays ∧ (s.weighOver l).manifest = s.manifest ∧ (s.weighOver l).branch = s.branch ∧
    (s.weighOver l).security = s.security ∧ (s.weighOver l).courier = s.courier ∧
    (s.weighOver l).lastStart = s.lastStart ∧ (s.weighOver l).pending = s.pending := by
  and_intros <;> simp only [State.weighOver] <;> split <;> simp

@[simp] theorem State.positioned_frame (s : State) (l : LaneId) (atBin : Bool) :
    (s.positioned l atBin).clock = s.clock ∧ (s.positioned l atBin).power = s.power ∧
    (s.positioned l atBin).marker = s.marker ∧ (s.positioned l atBin).config = s.config ∧
    (s.positioned l atBin).levels = s.levels ∧ (s.positioned l atBin).windows = s.windows ∧
    (s.positioned l atBin).selection = s.selection ∧ (s.positioned l atBin).sweep = s.sweep ∧
    (s.positioned l atBin).strays = s.strays ∧ (s.positioned l atBin).manifest = s.manifest ∧
    (s.positioned l atBin).lastStart = s.lastStart ∧ (s.positioned l atBin).pending = s.pending := by
  and_intros <;> simp only [State.positioned] <;> split <;> (try split) <;> simp

@[simp] theorem State.lockPulseOver_frame (s : State) (l : LaneId) :
    (s.lockPulseOver l).clock = s.clock ∧ (s.lockPulseOver l).power = s.power ∧
    (s.lockPulseOver l).marker = s.marker ∧ (s.lockPulseOver l).config = s.config ∧
    (s.lockPulseOver l).register = s.register ∧ (s.lockPulseOver l).bins = s.bins ∧
    (s.lockPulseOver l).alloc = s.alloc ∧ (s.lockPulseOver l).depositors = s.depositors ∧
    (s.lockPulseOver l).diverter = s.diverter ∧ (s.lockPulseOver l).levels = s.levels ∧
    (s.lockPulseOver l).windows = s.windows ∧ (s.lockPulseOver l).selection = s.selection ∧
    (s.lockPulseOver l).sweep = s.sweep ∧ (s.lockPulseOver l).strays = s.strays ∧
    (s.lockPulseOver l).manifest = s.manifest ∧ (s.lockPulseOver l).branch = s.branch ∧
    (s.lockPulseOver l).security = s.security ∧ (s.lockPulseOver l).courier = s.courier ∧
    (s.lockPulseOver l).lastStart = s.lastStart ∧ (s.lockPulseOver l).pending = s.pending := by
  simp [State.lockPulseOver]

@[simp] theorem State.tipPulseOver_frame (s : State) (l : LaneId) :
    (s.tipPulseOver l).clock = s.clock ∧ (s.tipPulseOver l).power = s.power ∧ (s.tipPulseOver l).marker = s.marker ∧
    (s.tipPulseOver l).config = s.config ∧ (s.tipPulseOver l).register = s.register ∧
    (s.tipPulseOver l).bins = s.bins ∧ (s.tipPulseOver l).alloc = s.alloc ∧
    (s.tipPulseOver l).depositors = s.depositors ∧ (s.tipPulseOver l).diverter = s.diverter ∧
    (s.tipPulseOver l).levels = s.levels ∧ (s.tipPulseOver l).windows = s.windows ∧
    (s.tipPulseOver l).selection = s.selection ∧ (s.tipPulseOver l).sweep = s.sweep ∧
    (s.tipPulseOver l).strays = s.strays ∧ (s.tipPulseOver l).manifest = s.manifest ∧
    (s.tipPulseOver l).lastStart = s.lastStart ∧ (s.tipPulseOver l).pending = s.pending := by
  and_intros <;> simp only [State.tipPulseOver] <;> split <;> simp

@[simp] theorem State.returnPulseOver_frame (s : State) (l : LaneId) :
    (s.returnPulseOver l).clock = s.clock ∧ (s.returnPulseOver l).power = s.power ∧
    (s.returnPulseOver l).marker = s.marker ∧ (s.returnPulseOver l).config = s.config ∧
    (s.returnPulseOver l).register = s.register ∧ (s.returnPulseOver l).bins = s.bins ∧
    (s.returnPulseOver l).alloc = s.alloc ∧ (s.returnPulseOver l).depositors = s.depositors ∧
    (s.returnPulseOver l).diverter = s.diverter ∧ (s.returnPulseOver l).levels = s.levels ∧
    (s.returnPulseOver l).windows = s.windows ∧ (s.returnPulseOver l).selection = s.selection ∧
    (s.returnPulseOver l).sweep = s.sweep ∧ (s.returnPulseOver l).strays = s.strays ∧
    (s.returnPulseOver l).manifest = s.manifest ∧ (s.returnPulseOver l).lastStart = s.lastStart ∧
    (s.returnPulseOver l).pending = s.pending := by
  and_intros <;> simp only [State.returnPulseOver] <;> split <;> (try split) <;> simp

@[simp] theorem State.pulseOver_frame (s : State) (l : LaneId) (o : Actuator) :
    (s.pulseOver l o).clock = s.clock ∧ (s.pulseOver l o).power = s.power ∧ (s.pulseOver l o).marker = s.marker ∧
    (s.pulseOver l o).config = s.config ∧ (s.pulseOver l o).register = s.register ∧ (s.pulseOver l o).bins = s.bins ∧
    (s.pulseOver l o).alloc = s.alloc ∧ (s.pulseOver l o).depositors = s.depositors ∧
    (s.pulseOver l o).diverter = s.diverter ∧ (s.pulseOver l o).levels = s.levels ∧
    (s.pulseOver l o).windows = s.windows ∧ (s.pulseOver l o).selection = s.selection ∧
    (s.pulseOver l o).sweep = s.sweep ∧ (s.pulseOver l o).strays = s.strays ∧
    (s.pulseOver l o).manifest = s.manifest ∧ (s.pulseOver l o).lastStart = s.lastStart ∧
    (s.pulseOver l o).pending = s.pending := by
  and_intros <;> simp only [State.pulseOver] <;> split <;> simp

@[simp] theorem State.arrivalRead_frame (s : State) (l : LaneId) (x : Route) (seen : List Tag) (printerFault : Bool) :
    (s.arrivalRead l x seen printerFault).clock = s.clock ∧ (s.arrivalRead l x seen printerFault).power = s.power ∧
    (s.arrivalRead l x seen printerFault).marker = s.marker ∧
    (s.arrivalRead l x seen printerFault).config = s.config ∧
    (s.arrivalRead l x seen printerFault).levels = s.levels ∧
    (s.arrivalRead l x seen printerFault).windows = s.windows ∧
    (s.arrivalRead l x seen printerFault).selection = s.selection ∧
    (s.arrivalRead l x seen printerFault).sweep = s.sweep ∧ (s.arrivalRead l x seen printerFault).strays = s.strays ∧
    (s.arrivalRead l x seen printerFault).manifest = s.manifest ∧
    (s.arrivalRead l x seen printerFault).branch = s.branch ∧
    (s.arrivalRead l x seen printerFault).security = s.security ∧
    (s.arrivalRead l x seen printerFault).courier = s.courier ∧
    (s.arrivalRead l x seen printerFault).lastStart = s.lastStart ∧
    (s.arrivalRead l x seen printerFault).pending = s.pending := by
  and_intros <;> simp only [State.arrivalRead] <;> split <;> (try split) <;> simp

@[simp] theorem State.waitOver_frame (s : State) (l : LaneId) :
    (s.waitOver l).clock = s.clock ∧ (s.waitOver l).power = s.power ∧ (s.waitOver l).marker = s.marker ∧
    (s.waitOver l).config = s.config ∧ (s.waitOver l).register = s.register ∧ (s.waitOver l).bins = s.bins ∧
    (s.waitOver l).alloc = s.alloc ∧ (s.waitOver l).depositors = s.depositors ∧
    (s.waitOver l).diverter = s.diverter ∧ (s.waitOver l).levels = s.levels ∧ (s.waitOver l).windows = s.windows ∧
    (s.waitOver l).selection = s.selection ∧ (s.waitOver l).sweep = s.sweep ∧ (s.waitOver l).strays = s.strays ∧
    (s.waitOver l).manifest = s.manifest ∧ (s.waitOver l).lastStart = s.lastStart ∧
    (s.waitOver l).pending = s.pending := by
  and_intros <;> simp only [State.waitOver] <;> split <;> simp

/-! ### Bins and the sweep -/

@[simp] theorem State.stopEngage_frame (s : State) (i : BinIdx) (byRelatch : Bool) :
    (s.stopEngage i byRelatch).clock = s.clock ∧ (s.stopEngage i byRelatch).power = s.power ∧
    (s.stopEngage i byRelatch).marker = s.marker ∧ (s.stopEngage i byRelatch).config = s.config ∧
    (s.stopEngage i byRelatch).register = s.register ∧ (s.stopEngage i byRelatch).alloc = s.alloc ∧
    (s.stopEngage i byRelatch).depositors = s.depositors ∧ (s.stopEngage i byRelatch).laneA = s.laneA ∧
    (s.stopEngage i byRelatch).laneB = s.laneB ∧ (s.stopEngage i byRelatch).diverter = s.diverter ∧
    (s.stopEngage i byRelatch).levels = s.levels ∧ (s.stopEngage i byRelatch).windows = s.windows ∧
    (s.stopEngage i byRelatch).selection = s.selection ∧ (s.stopEngage i byRelatch).sweep = s.sweep ∧
    (s.stopEngage i byRelatch).strays = s.strays ∧ (s.stopEngage i byRelatch).manifest = s.manifest ∧
    (s.stopEngage i byRelatch).lastStart = s.lastStart ∧ (s.stopEngage i byRelatch).pending = s.pending := by
  and_intros <;> simp only [State.stopEngage] <;> split <;> (try split) <;> simp

@[simp] theorem State.setDoor_frame (s : State) (i : BinIdx) (d : Door) :
    (s.setDoor i d).clock = s.clock ∧ (s.setDoor i d).power = s.power ∧ (s.setDoor i d).marker = s.marker ∧
    (s.setDoor i d).config = s.config ∧ (s.setDoor i d).register = s.register ∧ (s.setDoor i d).alloc = s.alloc ∧
    (s.setDoor i d).depositors = s.depositors ∧ (s.setDoor i d).laneA = s.laneA ∧ (s.setDoor i d).laneB = s.laneB ∧
    (s.setDoor i d).diverter = s.diverter ∧ (s.setDoor i d).levels = s.levels ∧ (s.setDoor i d).windows = s.windows ∧
    (s.setDoor i d).selection = s.selection ∧ (s.setDoor i d).sweep = s.sweep ∧ (s.setDoor i d).strays = s.strays ∧
    (s.setDoor i d).manifest = s.manifest ∧ (s.setDoor i d).branch = s.branch ∧
    (s.setDoor i d).security = s.security ∧ (s.setDoor i d).courier = s.courier ∧
    (s.setDoor i d).lastStart = s.lastStart ∧ (s.setDoor i d).pending = s.pending := by
  simp [State.setDoor]

@[simp] theorem State.released_frame (s : State) (i : BinIdx) :
    (s.released i).clock = s.clock ∧ (s.released i).marker = s.marker ∧ (s.released i).config = s.config ∧
    (s.released i).register = s.register ∧ (s.released i).alloc = s.alloc ∧
    (s.released i).depositors = s.depositors ∧ (s.released i).laneA = s.laneA ∧ (s.released i).laneB = s.laneB ∧
    (s.released i).diverter = s.diverter ∧ (s.released i).levels = s.levels ∧ (s.released i).windows = s.windows ∧
    (s.released i).strays = s.strays ∧ (s.released i).manifest = s.manifest ∧
    (s.released i).lastStart = s.lastStart ∧ (s.released i).pending = s.pending := by
  simp [State.released]

@[simp] theorem State.engaged_frame (s : State) (i : BinIdx) :
    (s.engaged i).clock = s.clock ∧ (s.engaged i).marker = s.marker ∧ (s.engaged i).config = s.config ∧
    (s.engaged i).register = s.register ∧ (s.engaged i).alloc = s.alloc ∧ (s.engaged i).depositors = s.depositors ∧
    (s.engaged i).laneA = s.laneA ∧ (s.engaged i).laneB = s.laneB ∧ (s.engaged i).diverter = s.diverter ∧
    (s.engaged i).levels = s.levels ∧ (s.engaged i).windows = s.windows ∧ (s.engaged i).strays = s.strays ∧
    (s.engaged i).manifest = s.manifest ∧ (s.engaged i).branch = s.branch ∧ (s.engaged i).security = s.security ∧
    (s.engaged i).courier = s.courier ∧ (s.engaged i).lastStart = s.lastStart ∧ (s.engaged i).pending = s.pending := by
  simp [State.engaged]

@[simp] theorem State.stepExpired_frame (s : State) :
    (s.stepExpired).clock = s.clock ∧ (s.stepExpired).power = s.power ∧ (s.stepExpired).marker = s.marker ∧
    (s.stepExpired).config = s.config ∧ (s.stepExpired).register = s.register ∧ (s.stepExpired).bins = s.bins ∧
    (s.stepExpired).alloc = s.alloc ∧ (s.stepExpired).depositors = s.depositors ∧ (s.stepExpired).laneA = s.laneA ∧
    (s.stepExpired).laneB = s.laneB ∧ (s.stepExpired).diverter = s.diverter ∧ (s.stepExpired).levels = s.levels ∧
    (s.stepExpired).windows = s.windows ∧ (s.stepExpired).selection = s.selection ∧
    (s.stepExpired).strays = s.strays ∧ (s.stepExpired).manifest = s.manifest ∧ (s.stepExpired).branch = s.branch ∧
    (s.stepExpired).security = s.security ∧ (s.stepExpired).courier = s.courier ∧
    (s.stepExpired).lastStart = s.lastStart ∧ (s.stepExpired).pending = s.pending := by
  and_intros <;> simp only [State.stepExpired] <;> split <;> simp

@[simp] theorem State.readComplete_frame (s : State) (r : ReadPart) (seen : List (List Tag)) :
    (s.readComplete r seen).clock = s.clock ∧ (s.readComplete r seen).marker = s.marker ∧
    (s.readComplete r seen).config = s.config ∧ (s.readComplete r seen).diverter = s.diverter ∧
    (s.readComplete r seen).levels = s.levels ∧ (s.readComplete r seen).windows = s.windows ∧
    (s.readComplete r seen).selection = s.selection ∧ (s.readComplete r seen).lastStart = s.lastStart ∧
    (s.readComplete r seen).pending = s.pending := by
  simp [State.readComplete]

@[simp] theorem State.lapse_frame (s : State) :
    (s.lapse).clock = s.clock ∧ (s.lapse).marker = s.marker ∧ (s.lapse).config = s.config ∧
    (s.lapse).diverter = s.diverter ∧ (s.lapse).windows = s.windows ∧ (s.lapse).strays = s.strays ∧
    (s.lapse).manifest = s.manifest ∧ (s.lapse).lastStart = s.lastStart ∧ (s.lapse).pending = s.pending := by
  simp [State.lapse]

/-! ### Power -/

@[simp] theorem State.closeLanes_frame (s : State) :
    (s.closeLanes).clock = s.clock ∧ (s.closeLanes).power = s.power ∧ (s.closeLanes).marker = s.marker ∧
    (s.closeLanes).config = s.config ∧ (s.closeLanes).levels = s.levels ∧ (s.closeLanes).windows = s.windows ∧
    (s.closeLanes).selection = s.selection ∧ (s.closeLanes).sweep = s.sweep ∧ (s.closeLanes).strays = s.strays ∧
    (s.closeLanes).manifest = s.manifest ∧ (s.closeLanes).branch = s.branch ∧ (s.closeLanes).security = s.security ∧
    (s.closeLanes).courier = s.courier ∧ (s.closeLanes).lastStart = s.lastStart ∧ (s.closeLanes).pending = s.pending := by
  simp [State.closeLanes]

@[simp] theorem State.loseMains_frame (s : State) :
    (s.loseMains).clock = s.clock ∧ (s.loseMains).marker = s.marker ∧ (s.loseMains).config = s.config ∧
    (s.loseMains).levels = s.levels ∧ (s.loseMains).windows = s.windows ∧ (s.loseMains).selection = s.selection ∧
    (s.loseMains).strays = s.strays ∧ (s.loseMains).manifest = s.manifest ∧ (s.loseMains).lastStart = s.lastStart ∧
    (s.loseMains).pending = s.pending := by
  and_intros <;> simp only [State.loseMains] <;> split <;> simp

@[simp] theorem State.returnBin_frame (doors : BitVec 128) (s : State) (i : BinIdx) :
    (State.returnBin doors s i).clock = s.clock ∧ (State.returnBin doors s i).power = s.power ∧
    (State.returnBin doors s i).marker = s.marker ∧ (State.returnBin doors s i).config = s.config ∧
    (State.returnBin doors s i).register = s.register ∧ (State.returnBin doors s i).alloc = s.alloc ∧
    (State.returnBin doors s i).depositors = s.depositors ∧ (State.returnBin doors s i).laneA = s.laneA ∧
    (State.returnBin doors s i).laneB = s.laneB ∧ (State.returnBin doors s i).diverter = s.diverter ∧
    (State.returnBin doors s i).levels = s.levels ∧ (State.returnBin doors s i).windows = s.windows ∧
    (State.returnBin doors s i).selection = s.selection ∧ (State.returnBin doors s i).sweep = s.sweep ∧
    (State.returnBin doors s i).strays = s.strays ∧ (State.returnBin doors s i).manifest = s.manifest ∧
    (State.returnBin doors s i).lastStart = s.lastStart ∧ (State.returnBin doors s i).pending = s.pending := by
  and_intros <;> simp only [State.returnBin] <;> split <;> simp

@[simp] theorem State.startLinks_frame (s : State) (links : RestartLines) :
    (s.startLinks links).clock = s.clock ∧ (s.startLinks links).power = s.power ∧
    (s.startLinks links).marker = s.marker ∧ (s.startLinks links).config = s.config ∧
    (s.startLinks links).register = s.register ∧ (s.startLinks links).bins = s.bins ∧
    (s.startLinks links).alloc = s.alloc ∧ (s.startLinks links).depositors = s.depositors ∧
    (s.startLinks links).laneA = s.laneA ∧ (s.startLinks links).laneB = s.laneB ∧
    (s.startLinks links).diverter = s.diverter ∧ (s.startLinks links).levels = s.levels ∧
    (s.startLinks links).windows = s.windows ∧ (s.startLinks links).selection = s.selection ∧
    (s.startLinks links).sweep = s.sweep ∧ (s.startLinks links).strays = s.strays ∧
    (s.startLinks links).manifest = s.manifest ∧ (s.startLinks links).security = s.security ∧
    (s.startLinks links).lastStart = s.lastStart ∧ (s.startLinks links).pending = s.pending := by
  simp [State.startLinks]

@[simp] theorem State.leaveRetention_frame (s : State) (cabinet : CabinetLines) (links : RestartLines) :
    (s.leaveRetention cabinet links).clock = s.clock ∧ (s.leaveRetention cabinet links).power = s.power ∧
    (s.leaveRetention cabinet links).marker = s.marker ∧ (s.leaveRetention cabinet links).config = s.config ∧
    (s.leaveRetention cabinet links).levels = s.levels ∧ (s.leaveRetention cabinet links).windows = s.windows ∧
    (s.leaveRetention cabinet links).selection = s.selection ∧ (s.leaveRetention cabinet links).sweep = s.sweep ∧
    (s.leaveRetention cabinet links).strays = s.strays ∧ (s.leaveRetention cabinet links).manifest = s.manifest ∧
    (s.leaveRetention cabinet links).lastStart = s.lastStart ∧ (s.leaveRetention cabinet links).pending = s.pending := by
  simp only [State.leaveRetention]
  exact ⟨by rw [foldl_keeps _ State.clock (by simp)]; simp,
    by rw [foldl_keeps _ State.power (by simp)]; simp,
    by rw [foldl_keeps _ State.marker (by simp)]; simp,
    by rw [foldl_keeps _ State.config (by simp)]; simp,
    by rw [foldl_keeps _ State.levels (by simp)]; simp,
    by rw [foldl_keeps _ State.windows (by simp)]; simp,
    by rw [foldl_keeps _ State.selection (by simp)]; simp,
    by rw [foldl_keeps _ State.sweep (by simp)]; simp,
    by rw [foldl_keeps _ State.strays (by simp)]; simp,
    by rw [foldl_keeps _ State.manifest (by simp)]; simp,
    by rw [foldl_keeps _ State.lastStart (by simp)]; simp,
    by rw [foldl_keeps _ State.pending (by simp)]; simp⟩

@[simp] theorem State.regainMains_frame (s : State) (cabinet : CabinetLines) (links : RestartLines) :
    (s.regainMains cabinet links).clock = s.clock ∧ (s.regainMains cabinet links).marker = s.marker ∧
    (s.regainMains cabinet links).config = s.config ∧ (s.regainMains cabinet links).levels = s.levels ∧
    (s.regainMains cabinet links).windows = s.windows ∧ (s.regainMains cabinet links).selection = s.selection ∧
    (s.regainMains cabinet links).strays = s.strays ∧ (s.regainMains cabinet links).manifest = s.manifest ∧
    (s.regainMains cabinet links).lastStart = s.lastStart ∧ (s.regainMains cabinet links).pending = s.pending := by
  and_intros <;> simp only [State.regainMains] <;> split <;> simp

/-- Who asks the bus for a read changes no condition of R207. -/
@[simp] theorem State.askBus_conditions (s : State) :
    (s.askBus).power.mainsPresent = s.power.mainsPresent ∧ (s.askBus).power.batteryLow = s.power.batteryLow := by
  unfold State.askBus
  split
  · split
    · exact ⟨rfl, rfl⟩
    · split <;> exact ⟨rfl, rfl⟩
  · exact ⟨rfl, rfl⟩

/-- The beginning of the INVENTORY pass changes no condition of R207. -/
@[simp] theorem State.beginInventory_conditions (s : State) :
    (s.beginInventory).power.mainsPresent = s.power.mainsPresent ∧
    (s.beginInventory).power.batteryLow = s.power.batteryLow := by
  simp [State.beginInventory]

/-- The return of mains leaves the battery-low condition as it stands (R208). -/
@[simp] theorem State.regainMains_conditions (s : State) (cabinet : CabinetLines) (links : RestartLines) :
    (s.regainMains cabinet links).power.mainsPresent = true ∧
    (s.regainMains cabinet links).power.batteryLow = s.power.batteryLow := by
  simp only [State.regainMains]
  split <;> simp

@[simp] theorem State.logOutCrew_frame (s : State) :
    (s.logOutCrew).clock = s.clock ∧ (s.logOutCrew).marker = s.marker ∧ (s.logOutCrew).config = s.config ∧
    (s.logOutCrew).diverter = s.diverter ∧ (s.logOutCrew).windows = s.windows ∧ (s.logOutCrew).strays = s.strays ∧
    (s.logOutCrew).lastStart = s.lastStart ∧ (s.logOutCrew).pending = s.pending := by
  and_intros <;> simp only [State.logOutCrew] <;> split <;> simp

@[simp] theorem State.dropRequests_frame (s : State) :
    (s.dropRequests).clock = s.clock ∧ (s.dropRequests).marker = s.marker ∧ (s.dropRequests).config = s.config ∧
    (s.dropRequests).diverter = s.diverter ∧ (s.dropRequests).windows = s.windows ∧
    (s.dropRequests).strays = s.strays ∧ (s.dropRequests).manifest = s.manifest ∧
    (s.dropRequests).lastStart = s.lastStart ∧ (s.dropRequests).pending = s.pending := by
  simp [State.dropRequests]

@[simp] theorem State.stopLane_frame (s : State) (l : LaneId) :
    (s.stopLane l).clock = s.clock ∧ (s.stopLane l).power = s.power ∧ (s.stopLane l).marker = s.marker ∧
    (s.stopLane l).config = s.config ∧ (s.stopLane l).register = s.register ∧ (s.stopLane l).bins = s.bins ∧
    (s.stopLane l).alloc = s.alloc ∧ (s.stopLane l).depositors = s.depositors ∧
    (s.stopLane l).diverter = s.diverter ∧ (s.stopLane l).levels = s.levels ∧ (s.stopLane l).windows = s.windows ∧
    (s.stopLane l).selection = s.selection ∧ (s.stopLane l).sweep = s.sweep ∧ (s.stopLane l).strays = s.strays ∧
    (s.stopLane l).manifest = s.manifest ∧ (s.stopLane l).branch = s.branch ∧ (s.stopLane l).security = s.security ∧
    (s.stopLane l).courier = s.courier ∧ (s.stopLane l).lastStart = s.lastStart ∧ (s.stopLane l).pending = s.pending := by
  simp [State.stopLane]

@[simp] theorem State.abandonBin_frame (s : State) (i : BinIdx) :
    (State.abandonBin s i).clock = s.clock ∧ (State.abandonBin s i).power = s.power ∧
    (State.abandonBin s i).marker = s.marker ∧ (State.abandonBin s i).config = s.config ∧
    (State.abandonBin s i).register = s.register ∧ (State.abandonBin s i).alloc = s.alloc ∧
    (State.abandonBin s i).depositors = s.depositors ∧ (State.abandonBin s i).laneA = s.laneA ∧
    (State.abandonBin s i).laneB = s.laneB ∧ (State.abandonBin s i).diverter = s.diverter ∧
    (State.abandonBin s i).levels = s.levels ∧ (State.abandonBin s i).windows = s.windows ∧
    (State.abandonBin s i).selection = s.selection ∧ (State.abandonBin s i).sweep = s.sweep ∧
    (State.abandonBin s i).strays = s.strays ∧ (State.abandonBin s i).manifest = s.manifest ∧
    (State.abandonBin s i).lastStart = s.lastStart ∧ (State.abandonBin s i).pending = s.pending := by
  and_intros <;> simp only [State.abandonBin] <;> split <;> simp

@[simp] theorem State.stopBlocks_frame (s : State) :
    (s.stopBlocks).clock = s.clock ∧ (s.stopBlocks).power = s.power ∧ (s.stopBlocks).marker = s.marker ∧
    (s.stopBlocks).config = s.config ∧ (s.stopBlocks).alloc = s.alloc ∧ (s.stopBlocks).depositors = s.depositors ∧
    (s.stopBlocks).levels = s.levels ∧ (s.stopBlocks).windows = s.windows ∧ (s.stopBlocks).manifest = s.manifest ∧
    (s.stopBlocks).lastStart = s.lastStart ∧ (s.stopBlocks).pending = s.pending := by
  simp only [State.stopBlocks]
  exact ⟨by rw [foldl_keeps _ State.clock (by simp)]; simp,
    by rw [foldl_keeps _ State.power (by simp)]; simp,
    by rw [foldl_keeps _ State.marker (by simp)]; simp,
    by rw [foldl_keeps _ State.config (by simp)]; simp,
    by rw [foldl_keeps _ State.alloc (by simp)]; simp,
    by rw [foldl_keeps _ State.depositors (by simp)]; simp,
    by rw [foldl_keeps _ State.levels (by simp)]; simp,
    by rw [foldl_keeps _ State.windows (by simp)]; simp,
    by rw [foldl_keeps _ State.manifest (by simp)]; simp,
    by rw [foldl_keeps _ State.lastStart (by simp)]; simp,
    by rw [foldl_keeps _ State.pending (by simp)]; simp⟩

@[simp] theorem State.enterRetention_frame (s : State) :
    (s.enterRetention).clock = s.clock ∧ (s.enterRetention).marker = s.marker ∧
    (s.enterRetention).config = s.config ∧ (s.enterRetention).windows = s.windows ∧
    (s.enterRetention).lastStart = s.lastStart ∧ (s.enterRetention).pending = s.pending := by
  simp [State.enterRetention]

@[simp] theorem State.keptStorage_frame (s : State) :
    (s.keptStorage).clock = s.clock ∧ (s.keptStorage).power = s.power ∧ (s.keptStorage).marker = s.marker ∧
    (s.keptStorage).config = s.config ∧ (s.keptStorage).alloc = s.alloc ∧ (s.keptStorage).depositors = s.depositors ∧
    (s.keptStorage).laneA = s.laneA ∧ (s.keptStorage).laneB = s.laneB ∧ (s.keptStorage).diverter = s.diverter ∧
    (s.keptStorage).levels = s.levels ∧ (s.keptStorage).windows = s.windows ∧
    (s.keptStorage).selection = s.selection ∧ (s.keptStorage).sweep = s.sweep ∧ (s.keptStorage).strays = s.strays ∧
    (s.keptStorage).branch = s.branch ∧ (s.keptStorage).security = s.security ∧ (s.keptStorage).courier = s.courier ∧
    (s.keptStorage).lastStart = s.lastStart ∧ (s.keptStorage).pending = s.pending := by
  and_intros <;> simp only [State.keptStorage] <;> split <;> simp

@[simp] theorem State.initialised_frame (s : State) :
    (s.initialised).power = s.power ∧ (s.initialised).marker = s.marker ∧ (s.initialised).diverter = s.diverter ∧
    (s.initialised).selection = s.selection ∧ (s.initialised).strays = s.strays ∧ (s.initialised).branch = s.branch ∧
    (s.initialised).security = s.security ∧ (s.initialised).courier = s.courier ∧
    (s.initialised).lastStart = s.lastStart ∧ (s.initialised).pending = s.pending := by
  simp [State.initialised]

@[simp] theorem State.volatileStart_frame (s : State) (kept mains batteryLow : Bool) (lines : FieldLines) :
    (s.volatileStart kept mains batteryLow lines).clock = s.clock ∧
    (s.volatileStart kept mains batteryLow lines).config = s.config ∧
    (s.volatileStart kept mains batteryLow lines).register = s.register ∧
    (s.volatileStart kept mains batteryLow lines).bins = s.bins ∧
    (s.volatileStart kept mains batteryLow lines).alloc = s.alloc ∧
    (s.volatileStart kept mains batteryLow lines).depositors = s.depositors ∧
    (s.volatileStart kept mains batteryLow lines).windows = s.windows ∧
    (s.volatileStart kept mains batteryLow lines).manifest = s.manifest ∧
    (s.volatileStart kept mains batteryLow lines).pending = s.pending := by
  simp [State.volatileStart]

@[simp] theorem State.startBin_frame (doors : BitVec 128) (s : State) (i : BinIdx) :
    (State.startBin doors s i).clock = s.clock ∧ (State.startBin doors s i).power = s.power ∧
    (State.startBin doors s i).marker = s.marker ∧ (State.startBin doors s i).config = s.config ∧
    (State.startBin doors s i).register = s.register ∧ (State.startBin doors s i).alloc = s.alloc ∧
    (State.startBin doors s i).depositors = s.depositors ∧ (State.startBin doors s i).laneA = s.laneA ∧
    (State.startBin doors s i).laneB = s.laneB ∧ (State.startBin doors s i).diverter = s.diverter ∧
    (State.startBin doors s i).levels = s.levels ∧ (State.startBin doors s i).windows = s.windows ∧
    (State.startBin doors s i).selection = s.selection ∧ (State.startBin doors s i).sweep = s.sweep ∧
    (State.startBin doors s i).strays = s.strays ∧ (State.startBin doors s i).manifest = s.manifest ∧
    (State.startBin doors s i).lastStart = s.lastStart ∧ (State.startBin doors s i).pending = s.pending := by
  and_intros <;> simp only [State.startBin] <;> split <;> (try split) <;> simp

@[simp] theorem State.judgeInputs_frame (s : State) (lines : FieldLines) :
    (s.judgeInputs lines).clock = s.clock ∧ (s.judgeInputs lines).power = s.power ∧
    (s.judgeInputs lines).marker = s.marker ∧ (s.judgeInputs lines).config = s.config ∧
    (s.judgeInputs lines).levels = s.levels ∧ (s.judgeInputs lines).windows = s.windows ∧
    (s.judgeInputs lines).selection = s.selection ∧ (s.judgeInputs lines).sweep = s.sweep ∧
    (s.judgeInputs lines).strays = s.strays ∧ (s.judgeInputs lines).manifest = s.manifest ∧
    (s.judgeInputs lines).lastStart = s.lastStart ∧ (s.judgeInputs lines).pending = s.pending := by
  and_intros <;> simp only [State.judgeInputs] <;> split <;> simp

@[simp] theorem State.startSweep_frame (s : State) :
    (s.startSweep).clock = s.clock ∧ (s.startSweep).marker = s.marker ∧ (s.startSweep).config = s.config ∧
    (s.startSweep).register = s.register ∧ (s.startSweep).bins = s.bins ∧ (s.startSweep).alloc = s.alloc ∧
    (s.startSweep).depositors = s.depositors ∧ (s.startSweep).laneA = s.laneA ∧ (s.startSweep).laneB = s.laneB ∧
    (s.startSweep).diverter = s.diverter ∧ (s.startSweep).levels = s.levels ∧ (s.startSweep).windows = s.windows ∧
    (s.startSweep).selection = s.selection ∧ (s.startSweep).strays = s.strays ∧
    (s.startSweep).manifest = s.manifest ∧ (s.startSweep).branch = s.branch ∧ (s.startSweep).security = s.security ∧
    (s.startSweep).courier = s.courier ∧ (s.startSweep).lastStart = s.lastStart ∧ (s.startSweep).pending = s.pending := by
  and_intros <;> simp only [State.startSweep] <;> split <;> simp

@[simp] theorem State.coldStart_frame (s : State) (retentionHeld mains batteryLow : Bool) (lines : FieldLines) :
    (s.coldStart retentionHeld mains batteryLow lines).pending = s.pending := by
  simp only [State.coldStart, State.startSweep_frame, State.judgeInputs_frame]
  rw [foldl_keeps _ State.pending (by simp)]
  simp only [State.notify_frame, State.volatileStart_frame]
  split <;> simp

end Sys2Proof.Machine
end

