-- ==== Sys2Proof/Laws/Requests.lean ====
section
/-!
SUPPORT. The taking of a request said once: when it waits, when its code is turned away, and otherwise its owner's
answer sent back (R195); and the reading of a SET CONFIG's payload field by field (R204).
-/
namespace Sys2Proof.Machine

/-- A request that its link cannot take now has no effect. -/
theorem State.answerRequest_waits {s : State} {l : Link} (h : s.canTake l = false) (code : Nat)
    (owner : State → State × Answer) : s.answerRequest l code owner = .next s := by
  simp [State.answerRequest, h]

/-- A request whose code its link does not carry is answered UNKNOWN REQUEST, and no block sees it. -/
theorem State.answerRequest_unknown {s : State} {l : Link} {code : Nat} (h : s.canTake l = true)
    (hc : carries l code = false) (owner : State → State × Answer) :
    s.answerRequest l code owner = .next (s.reply l code (.refuse .unknownRequest)) := by
  simp [State.answerRequest, h, hc]

/-- A request that is taken goes to its owner, whose answer is sent back. -/
theorem State.answerRequest_taken {s : State} {l : Link} {code : Nat} (h : s.canTake l = true)
    (hc : carries l code = true) (owner : State → State × Answer) :
    s.answerRequest l code owner = .next ((owner s).1.reply l code (owner s).2) := by
  simp [State.answerRequest, h, hc]

/-- Everything the taking of a request can answer. -/
theorem State.answerRequest_cases {s t : State} {l : Link} {code : Nat} {owner : State → State × Answer}
    (h : s.answerRequest l code owner = .next t) :
    (s.canTake l = false ∧ t = s) ∨
      (s.canTake l = true ∧ carries l code = false ∧ t = s.reply l code (.refuse .unknownRequest)) ∨
      (s.canTake l = true ∧ carries l code = true ∧ t = (owner s).1.reply l code (owner s).2) := by
  by_cases hc : s.canTake l = true
  · by_cases hk : carries l code = true
    · rw [State.answerRequest_taken hc hk] at h; cases h; exact .inr (.inr ⟨hc, hk, rfl⟩)
    · have hk : carries l code = false := by simpa using hk
      rw [State.answerRequest_unknown hc hk] at h; cases h; exact .inr (.inl ⟨hc, hk, rfl⟩)
  · have hc : s.canTake l = false := by simpa using hc
    rw [State.answerRequest_waits hc] at h; cases h; exact .inl ⟨hc, rfl⟩

/-- A request always answers a next state. -/
theorem State.answerRequest_next (s : State) (l : Link) (code : Nat) (owner : State → State × Answer) :
    ∃ t, s.answerRequest l code owner = .next t := by
  unfold State.answerRequest
  split
  · split <;> exact ⟨_, rfl⟩
  · exact ⟨_, rfl⟩

/-- The link after a reply begins: ANSWERING, with the assembly in HUNT. -/
@[simp] theorem State.link_reply_self (s : State) (l : Link) (code : Nat) (a : Answer) :
    (s.reply l code a).link l =
      { s.link l with assembly := huntAt s.now
                      exchange := .answering { code := BitVec.ofNat 8 code, answer := a } } := by
  simp [State.reply]

/-! ### The payload of a SET CONFIG (R204) -/

/-- The numbers 1 to 18 name a field of SET CONFIG. -/
theorem configField_named {n : Nat} (low : 1 ≤ n) (high : n ≤ 18) :
    ∃ size read, configField n = some (size, read) := by
  interval_cases n <;> exact ⟨_, _, rfl⟩

/-- One field of its size is read and the rest of the payload after it. -/
theorem configFields_cons {number : Byte} {size : Nat} {read : List Byte → ConfigWrite} {value : List Byte}
    (named : configField number.toNat = some (size, read)) (sized : value.length = size) (fuel : Nat)
    (rest : List Byte) :
    configFields (fuel + 1) (number :: (value ++ rest)) =
      (configFields fuel rest).map (fun writes => read value :: writes) := by
  subst sized
  simp [configFields, named]

/-- A field whose number names none, or whose value is cut short, is read as none. -/
theorem configFields_bad {number : Byte} {value : List Byte}
    (bad : ∀ size read, configField number.toNat = some (size, read) → value.length < size) (fuel : Nat) :
    configFields fuel (number :: value) = none := by
  cases fuel with
  | zero => rfl
  | succ fuel =>
    cases named : configField number.toNat with
    | none => simp [configFields, named]
    | some field => simp [configFields, named, bad field.1 field.2 named]

end Sys2Proof.Machine
end

