-- ==== Sys2Proof/Laws/PerInstr.lean ====
section
/-!
SUPPORT. A family of statements made instruction by instruction, about the command as syntax alone: how it stands on
the wire. A request has one of the codes of the table of Request codes, which some link carries, and a command that is
no request has no payload (R195, Request codes).
-/
namespace Sys2Proof.Laws.Wire

open Sys2Proof.Machine

/-- A request's code is a byte that some link carries; a command that is no request has no payload. -/
def Statement (i : Instr) : Prop :=
  (∀ l code, requestOf i = some (l, code) → 0 < code ∧ code < 256 ∧ ∃ m, carries m code = true) ∧
    (requestOf i = none → payloadOf i = none)

/-- A command with a code that the branch link, the security link or the courier port carries. -/
theorem of_request {i : Instr} {l : Link} {code : Nat} (m : Link) (h : requestOf i = some (l, code))
    (hp : 0 < code ∧ code < 256) (hc : carries m code = true) : Statement i := by
  refine ⟨fun l' code' h' => ?_, fun h' => ?_⟩
  · obtain ⟨-, rfl⟩ : l = l' ∧ code = code' := by simpa [h] using h'
    exact ⟨hp.1, hp.2, m, hc⟩
  · simp [h] at h'

/-- A command that is no request. -/
theorem of_event {i : Instr} (h : requestOf i = none) (hp : payloadOf i = none) : Statement i :=
  ⟨fun _ _ h' => by simp [h] at h', fun _ => hp⟩

theorem readNotices (link : Link) :
    Statement (.readNotices link) :=
  of_request .branch rfl (by decide) rfl
theorem readLevel (link : Link) :
    Statement (.readLevel link) :=
  of_request .branch rfl (by decide) rfl
theorem readRack (link : Link) (rack : BitVec 8) :
    Statement (.readRack link rack) :=
  of_request .branch rfl (by decide) rfl
theorem readSweep (link : Link) :
    Statement (.readSweep link) :=
  of_request .branch rfl (by decide) rfl
theorem readWindows (link : Link) :
    Statement (.readWindows link) :=
  of_request .branch rfl (by decide) rfl
theorem readConfig (link : Link) :
    Statement (.readConfig link) :=
  of_request .branch rfl (by decide) rfl
theorem readClock (link : Link) :
    Statement (.readClock link) :=
  of_request .branch rfl (by decide) rfl
theorem readPower (link : Link) :
    Statement (.readPower link) :=
  of_request .branch rfl (by decide) rfl
theorem laneStatus (link : Link) (lane : LaneId) :
    Statement (.laneStatus link lane) :=
  of_request .branch rfl (by decide) rfl
theorem laneClose (link : Link) (lane : LaneId) :
    Statement (.laneClose link lane) :=
  of_request .branch rfl (by decide) rfl
theorem laneOpen (link : Link) (lane : LaneId) :
    Statement (.laneOpen link lane) :=
  of_request .branch rfl (by decide) rfl
theorem laneService (link : Link) (lane : LaneId) :
    Statement (.laneService link lane) :=
  of_request .branch rfl (by decide) rfl
theorem laneServiceEnd (link : Link) (lane : LaneId) :
    Statement (.laneServiceEnd link lane) :=
  of_request .branch rfl (by decide) rfl
theorem laneDrive (link : Link) (lane : LaneId) (output : Actuator) (length : BitVec 16) :
    Statement (.laneDrive link lane output length) :=
  of_request .branch rfl (by decide) rfl
theorem trialCheck (link : Link) (notes silver bronze : BitVec 32) (capture : BitVec 24) (source : TrustSource) :
    Statement (.trialCheck link notes silver bronze capture source) :=
  of_request .branch rfl (by decide) rfl
theorem requestLevel (link : Link) (level : BitVec 8) :
    Statement (.requestLevel link level) :=
  of_request .branch rfl (by decide) rfl
theorem confirm (link : Link) :
    Statement (.confirm link) :=
  of_request .branch rfl (by decide) rfl
theorem setCeiling (link : Link) (level : BitVec 8) :
    Statement (.setCeiling link level) :=
  of_request .security rfl (by decide) rfl
theorem raiseDuress (link : Link) :
    Statement (.raiseDuress link) :=
  of_request .security rfl (by decide) rfl
theorem clearDuress (link : Link) :
    Statement (.clearDuress link) :=
  of_request .security rfl (by decide) rfl
theorem setWindow (link : Link) (slot days : BitVec 8) (startMinute endMinute : BitVec 16) (level : BitVec 8) :
    Statement (.setWindow link slot days startMinute endMinute level) :=
  of_request .security rfl (by decide) rfl
theorem clearWindow (link : Link) (slot : BitVec 8) :
    Statement (.clearWindow link slot) :=
  of_request .security rfl (by decide) rfl
theorem selectRack (link : Link) (rack : BitVec 8) :
    Statement (.selectRack link rack) :=
  of_request .branch rfl (by decide) rfl
theorem unlatchBin (link : Link) (slot : BitVec 8) :
    Statement (.unlatchBin link slot) :=
  of_request .branch rfl (by decide) rfl
theorem relatchBin (link : Link) (slot : BitVec 8) :
    Statement (.relatchBin link slot) :=
  of_request .branch rfl (by decide) rfl
theorem releaseRack (link : Link) :
    Statement (.releaseRack link) :=
  of_request .branch rfl (by decide) rfl
theorem withdrawBin (link : Link) (bin : BitVec 8) :
    Statement (.withdrawBin link bin) :=
  of_request .branch rfl (by decide) rfl
theorem restoreBin (link : Link) (bin : BitVec 8) :
    Statement (.restoreBin link bin) :=
  of_request .branch rfl (by decide) rfl
theorem rackInventory (link : Link) (rack : BitVec 8) :
    Statement (.rackInventory link rack) :=
  of_request .branch rfl (by decide) rfl
theorem readStrays (link : Link) (part : Option (BitVec 8)) :
    Statement (.readStrays link part) :=
  of_request .branch rfl (by decide) rfl
theorem clearStrays (link : Link) (count : Option (BitVec 8)) :
    Statement (.clearStrays link count) :=
  of_request .branch rfl (by decide) rfl
theorem readRecord (link : Link) (key : RecordKey) :
    Statement (.readRecord link key) :=
  of_request .branch rfl (by decide) rfl
theorem readBin (link : Link) (bin : BitVec 8) :
    Statement (.readBin link bin) :=
  of_request .branch rfl (by decide) rfl
theorem readReservations (link : Link) (part : Option (BitVec 8)) :
    Statement (.readReservations link part) :=
  of_request .branch rfl (by decide) rfl
theorem list (link : Link) (start : BitVec 24) (filter : ListFilter) :
    Statement (.list link start filter) :=
  of_request .branch rfl (by decide) rfl
theorem listNext (link : Link) :
    Statement (.listNext link) :=
  of_request .branch rfl (by decide) rfl
theorem stopList (link : Link) :
    Statement (.stopList link) :=
  of_request .branch rfl (by decide) rfl
theorem takeBag (link : Link) (tag : BitVec 40) :
    Statement (.takeBag link tag) :=
  of_request .branch rfl (by decide) rfl
theorem putBack (link : Link) (tag : BitVec 40) (bin : BitVec 8) :
    Statement (.putBack link tag bin) :=
  of_request .branch rfl (by decide) rfl
theorem postResult (link : Link) (receipt : BitVec 24) (counted : BitVec 32) :
    Statement (.postResult link receipt counted) :=
  of_request .branch rfl (by decide) rfl
theorem retire (link : Link) (receipt : BitVec 24) :
    Statement (.retire link receipt) :=
  of_request .branch rfl (by decide) rfl
theorem openManifest (link : Link) (card : BitVec 48) :
    Statement (.openManifest link card) :=
  of_request .branch rfl (by decide) rfl
theorem add (link : Link) (receipt : BitVec 24) :
    Statement (.add link receipt) :=
  of_request .branch rfl (by decide) rfl
theorem removeManifestEntry (link : Link) (receipt : BitVec 24) :
    Statement (.removeManifestEntry link receipt) :=
  of_request .branch rfl (by decide) rfl
theorem sealManifest (link : Link) :
    Statement (.sealManifest link) :=
  of_request .branch rfl (by decide) rfl
theorem cancel (link : Link) :
    Statement (.cancel link) :=
  of_request .branch rfl (by decide) rfl
theorem closeManifest (link : Link) :
    Statement (.closeManifest link) :=
  of_request .branch rfl (by decide) rfl
theorem readManifest (link : Link) (part : Option (BitVec 8)) :
    Statement (.readManifest link part) :=
  of_request .branch rfl (by decide) rfl
theorem login (link : Link) (card : BitVec 48) :
    Statement (.login link card) :=
  of_request .courier rfl (by decide) rfl
theorem scan (link : Link) (tag : BitVec 40) :
    Statement (.scan link tag) :=
  of_request .courier rfl (by decide) rfl
theorem logout (link : Link) :
    Statement (.logout link) :=
  of_request .courier rfl (by decide) rfl
theorem enrol (link : Link) (card : BitVec 48) (terms : DepositorTerms) :
    Statement (.enrol link card terms) :=
  of_request .branch rfl (by decide) rfl
theorem edit (link : Link) (index : BitVec 8) (card : Option (BitVec 48)) (terms : DepositorTerms) :
    Statement (.edit link index card terms) :=
  of_request .branch rfl (by decide) rfl
theorem suspend (link : Link) (index : BitVec 8) :
    Statement (.suspend link index) :=
  of_request .branch rfl (by decide) rfl
theorem restoreDepositor (link : Link) (index : BitVec 8) :
    Statement (.restoreDepositor link index) :=
  of_request .branch rfl (by decide) rfl
theorem removeDepositor (link : Link) (index : BitVec 8) :
    Statement (.removeDepositor link index) :=
  of_request .branch rfl (by decide) rfl
theorem readDepositor (link : Link) (key : DepositorKey) :
    Statement (.readDepositor link key) :=
  of_request .branch rfl (by decide) rfl
theorem setConfig (link : Link) (writes : List ConfigWrite) :
    Statement (.setConfig link writes) :=
  of_request .branch rfl (by decide) rfl
theorem setClock (link : Link) (day : BitVec 16) (second : BitVec 24) :
    Statement (.setClock link day second) :=
  of_request .branch rfl (by decide) rfl
theorem unknownRequest (link : Link) (code : BitVec 8) :
    Statement (.unknownRequest link code) :=
  of_event rfl rfl
theorem frameDiscard (link : Link) :
    Statement (.frameDiscard link) :=
  of_event rfl rfl
theorem linkGapTimeout (link : Link) :
    Statement (.linkGapTimeout link) :=
  of_event rfl rfl
theorem replySent (link : Link) :
    Statement (.replySent link) :=
  of_event rfl rfl
theorem linkReset (link : Link) :
    Statement (.linkReset link) :=
  of_event rfl rfl
theorem cardRead (lane : LaneId) (card : Card) :
    Statement (.cardRead lane card) :=
  of_event rfl rfl
theorem cardRefusalExpiry (lane : LaneId) :
    Statement (.cardRefusalExpiry lane) :=
  of_event rfl rfl
theorem keyPress (lane : LaneId) (key : Key) :
    Statement (.keyPress lane key) :=
  of_event rfl rfl
theorem keyTimerExpiry (lane : LaneId) :
    Statement (.keyTimerExpiry lane) :=
  of_event rfl rfl
theorem laneInputChange (lane : LaneId) (input : LaneInput) (value : Bool) :
    Statement (.laneInputChange lane input value) :=
  of_event rfl rfl
theorem lockConfirmTimeout (lane : LaneId) :
    Statement (.lockConfirmTimeout lane) :=
  of_event rfl rfl
theorem loadTimeout (lane : LaneId) :
    Statement (.loadTimeout lane) :=
  of_event rfl rfl
theorem tagRead (lane : LaneId) (result : Option Tag) :
    Statement (.tagRead lane result) :=
  of_event rfl rfl
theorem scaleSample (lane : LaneId) (sample : Reading) :
    Statement (.scaleSample lane sample) :=
  of_event rfl rfl
theorem weighTimeout (lane : LaneId) :
    Statement (.weighTimeout lane) :=
  of_event rfl rfl
theorem positioningExpiry (lane : LaneId) (atBin : Bool) :
    Statement (.positioningExpiry lane atBin) :=
  of_event rfl rfl
theorem pulseExpiry (lane : LaneId) (output : Actuator) :
    Statement (.pulseExpiry lane output) :=
  of_event rfl rfl
theorem entrySensorTrip (lane : LaneId) :
    Statement (.entrySensorTrip lane) :=
  of_event rfl rfl
theorem arrivalReadComplete (lane : LaneId) (seen : List Tag) (printerFault : Bool) :
    Statement (.arrivalReadComplete lane seen printerFault) :=
  of_event rfl rfl
theorem routeTimeout (lane : LaneId) :
    Statement (.routeTimeout lane) :=
  of_event rfl rfl
theorem returnWaitExpiry (lane : LaneId) :
    Statement (.returnWaitExpiry lane) :=
  of_event rfl rfl
theorem doorChange (bin : BinIdx) (door : Door) :
    Statement (.doorChange bin door) :=
  of_event rfl rfl
theorem latchReleased (bin : BinIdx) :
    Statement (.latchReleased bin) :=
  of_event rfl rfl
theorem releaseTimeout (bin : BinIdx) :
    Statement (.releaseTimeout bin) :=
  of_event rfl rfl
theorem latchEngaged (bin : BinIdx) :
    Statement (.latchEngaged bin) :=
  of_event rfl rfl
theorem engageTimeout (bin : BinIdx) :
    Statement (.engageTimeout bin) :=
  of_event rfl rfl
theorem pocketReadComplete (bin : BinIdx) (seen : List Tag) :
    Statement (.pocketReadComplete bin seen) :=
  of_event rfl rfl
theorem holdExpiry :
    Statement .holdExpiry :=
  of_event rfl rfl
theorem stepTimerExpiry :
    Statement .stepTimerExpiry :=
  of_event rfl rfl
theorem rackReadComplete (seen : List (List Tag)) :
    Statement (.rackReadComplete seen) :=
  of_event rfl rfl
theorem rackOverdue (rack : RackIdx) :
    Statement (.rackOverdue rack) :=
  of_event rfl rfl
theorem newMinute :
    Statement .newMinute :=
  of_event rfl rfl
theorem raiseDelayExpiry :
    Statement .raiseDelayExpiry :=
  of_event rfl rfl
theorem confirmLapse :
    Statement .confirmLapse :=
  of_event rfl rfl
theorem listIdleExpiry :
    Statement .listIdleExpiry :=
  of_event rfl rfl
theorem mainsLoss :
    Statement .mainsLoss :=
  of_event rfl rfl
theorem mainsReturn (cabinet : CabinetLines) (links : RestartLines) :
    Statement (.mainsReturn cabinet links) :=
  of_event rfl rfl
theorem batteryLow :
    Statement .batteryLow :=
  of_event rfl rfl
theorem coldStart (retentionHeld mains batteryLow : Bool) (lines : FieldLines) :
    Statement (.coldStart retentionHeld mains batteryLow lines) :=
  of_event rfl rfl
theorem characterReceived (link : Link) (character : Byte) (framingError : Bool) :
    Statement (.characterReceived link character framingError) :=
  of_event rfl rfl
theorem lineConditionChange (link : Link) (space : Bool) :
    Statement (.lineConditionChange link space) :=
  of_event rfl rfl

end Sys2Proof.Laws.Wire
end

