-- ==== Sys2Proof/WellFormed.lean ====
section
/-!
DEFINITION. Which commands can arise. A request carries its fields in the sizes of R197, so every value of its
fields can be sent; what its owning rule does not allow, that rule refuses. The checks here are those that a size
does not make: the serials and card numbers a reader can return, the range of a scale sample, the sixteen pockets
of a rack, and the SET CONFIG and EDIT that carry nothing.
-/
namespace Sys2Proof

/-- Ten decimal digits (R2). -/
def tagOk (t : Tag) : Bool := t < 10000000000

/-- Twelve decimal digits (R89). -/
def cardOk (c : Card) : Bool := c < 1000000000000

/-- A numeric sample is 0 to 65,535 dg (R63). -/
def readingOk : Reading → Bool
  | .mass dg => dg ≤ 65535
  | .overRange => true

/-- The command can arise. -/
def Instr.wellFormed : Instr → Bool
  | .setConfig _ writes => !writes.isEmpty
  | .edit _ _ card terms => card.isSome || terms.levels.isSome || terms.perBag.isSome || terms.drops.isSome
  | .cardRead _ card => cardOk card
  | .tagRead _ (some t) => tagOk t
  | .scaleSample _ r => readingOk r
  | .arrivalReadComplete _ seen _ => seen.all tagOk
  | .pocketReadComplete _ seen => seen.all tagOk
  | .rackReadComplete seen => seen.length == 16 && seen.all (fun l => l.all tagOk)
  | _ => true

end Sys2Proof
end

