-- ==== Sys2Proof/Tests/Slice0.lean ====
section
/-!
SUPPORT. Tests: the ill-formed commands that WellFormed refuses; values taken from the spec's worked examples and
tables or worked out by hand from its rules; and, for the statements with hypotheses, states and operands that meet
them, clause by clause and at the edges of their ranges.
-/
namespace Sys2Proof.Tests

open Sys2Proof.Machine

set_option maxRecDepth 20000

/-! ### WellFormed: one ill-formed command for each check -/

theorem test_wellFormed_refuses_empty_setConfig : (Instr.setConfig .branch []).wellFormed = false := by decide
theorem test_wellFormed_refuses_empty_edit :
    (Instr.edit .branch 0 none { levels := none, perBag := none, drops := none }).wellFormed = false := by decide
theorem test_wellFormed_refuses_long_card : (Instr.cardRead .a 1000000000000).wellFormed = false := by decide
theorem test_wellFormed_refuses_long_tag : (Instr.tagRead .a (some 10000000000)).wellFormed = false := by decide
theorem test_wellFormed_refuses_heavy_sample : (Instr.scaleSample .a (.mass 65536)).wellFormed = false := by decide
theorem test_wellFormed_refuses_arrival_tag :
    (Instr.arrivalReadComplete .a [1, 10000000000] false).wellFormed = false := by decide
theorem test_wellFormed_refuses_pocket_tag :
    (Instr.pocketReadComplete 0 [10000000000]).wellFormed = false := by decide
theorem test_wellFormed_refuses_fifteen_pockets :
    (Instr.rackReadComplete (List.replicate 15 [])).wellFormed = false := by decide
theorem test_wellFormed_refuses_rack_tag :
    (Instr.rackReadComplete ([10000000000] :: List.replicate 15 [])).wellFormed = false := by decide
theorem test_wellFormed_takes_edges :
    (Instr.cardRead .a 999999999999).wellFormed = true ∧ (Instr.scaleSample .a (.mass 65535)).wellFormed = true ∧
      (Instr.rackReadComplete (List.replicate 16 [9999999999])).wellFormed = true := by decide

/-! ### States -/

/-- A bag of 12,510 pence held in bin 0/00. -/
def bag : BagRecord :=
  { state := .held, receipt := some 1, lane := .a, depositor := 0, tag := 1234567890,
    decl := { notes := 12000, silver := 500, bronze := 10 }, mass := 700, lo := 600, hi := 800, decision := .accept,
    holdClass := .normal, bin := some 0, seenAt := none, dropTime := some { day := 1, second := 0 }, lastSeen := none,
    reservation := none, result := none,
    flags := { misrouteSuspect := false, outOfManifestScan := false, restarted := false } }

/-- The bag before its tip. -/
def reservedBag : BagRecord :=
  { bag with state := .reserved, receipt := none, dropTime := none
             reservation := some { cls := .normal, serial := 0, saved := 0 } }

/-- The bag on its way. -/
def flyingBag : BagRecord :=
  { bag with state := .inFlight, reservation := some { cls := .normal, serial := 0, saved := 0 } }

def holder : Depositor :=
  { state := .active, card := 111122223333, levels := { sealed := true, courier := true, inspect := true },
    perBag := 2000000, dropLimit := 6, windowStart := some { day := 1, second := 43000 }, windowCount := 1, trust := 1,
    liveCount := 1 }

/-- The state of a lane open to depositors. -/
def openLane : Lane := coldLane noReasons .idle shutDrawer true true true

/-- A part on MAINS in RUN at day 1, 12:00, with one bag in one bin, every bin LATCHED and both lanes IDLE. -/
def base : State :=
  { State.reset with
    power := { state := .mains .run, mainsPresent := true, batteryLow := false }
    clock := { day := 1, second := 43200, milli := 0, count := 200000, isSet := true }
    register := { records := [bag], nextReceipt := 2 }
    bins := (Table.ofFn (fun i =>
      { coldBin (State.resetClass i) 0 with latch := .latched, op := .idle } : BinIdx → Bin)).set 0
        { coldBin .normal 0 with latch := .latched, op := .idle, contents := [bag.tag], massSum := 700 }
    depositors := (Table.const 256 none).set 0 (some holder)
    laneA := openLane, laneB := openLane, sweep := stoppedSweep 0 0
    branch := startedLink 200000 false, security := startedLink 200000 false
    courier := startedLink 200000 false }

/-- A state with every claim at one level, and that level in force. -/
def atLevel (a : Level) : State :=
  { base with levels :=
    { branchRequest := a, courierRequest := .nothing, ceiling := .opened, duress := false, allowance := .opened,
      target := a, effective := a, raise := none } }

/-- The selection of rack 0, held to the count given. -/
def choice (p : Party) (phase : SelectionPhase) : Selection :=
  { owner := p, rack := 0, phase := phase, holdEnd := if phase = .active then some 200000 else none }

/-- Level OPEN with rack 0 selected. -/
def picked (p : Party) (phase : SelectionPhase) : State :=
  { atLevel .opened with selection := some (choice p phase) }

/-- A changed bag, with its bin's contents as its state asks. -/
def withBag (r : BagRecord) (s : State) : State :=
  ({ s with register := { s.register with records := [r] } } : State).modBin 0 (fun b =>
    { b with contents := if r.bin = some 0 then [r.tag] else [], massSum := if r.bin = some 0 then r.mass else 0 })

/-- A manifest in a state, with its entries and the courier card 444455556666. -/
def manifestIn (x : ManifestState) (entries : List Nat) : Manifest :=
  { state := x, card := some 444455556666, entries := entries, released := 0, withdrawn := 0, returned := 0,
    start := none, finish := none }

/-- Lane A changed. -/
def laneWith (f : Lane → Lane) (s : State) : State := s.modLane .a f

/-- RETENTION. -/
def retained : State := { base with power := { state := .retention, mainsPresent := false, batteryLow := true } }

/-- The part while the branch link sends a reply. -/
def sending : State := base.reply .branch 0x01 (.ok .nothing)

/-- What a next state shows. -/
def shows (o : Out) (p : State → Bool) : Bool :=
  match o with
  | .next t => p t
  | _ => false

/-- The answer being sent on a link. -/
def answerOn (l : Link) (t : State) : Option Answer :=
  match (t.link l).exchange with
  | .answering r => some r.answer
  | .idle => none

/-! ### The acceptance check: the worked cases of section 4.5 -/

/-- The zone and the verdicts at trust 0, 1, 2 of a declaration at a mass. -/
def zoneAt (c : ConfigWord) (d : Declaration) (m : Nat) : Zone × Verdict × Verdict × Verdict :=
  ((acceptance c d (.mass m) 0).zone, (acceptance c d (.mass m) 0).verdict, (acceptance c d (.mass m) 1).verdict,
    (acceptance c d (.mass m) 2).verdict)

def mixed : Declaration := { notes := 124000, silver := 3500, bronze := 250 }

theorem test_mixed_band :
    lowSum defaultConfig mixed = 11548 ∧ highSum defaultConfig mixed = 34630 ∧
      bandLo defaultConfig mixed = 11528 ∧ bandHi defaultConfig mixed = 34650 ∧
      lowerMargin defaultConfig mixed = 11478 ∧ upperMargin defaultConfig mixed = 34700 := by decide

theorem test_mixed_zones_low :
    zoneAt defaultConfig mixed 349 = (.underTare, .ret .empty, .ret .empty, .ret .empty) ∧
      zoneAt defaultConfig mixed 11477 = (.light, .hold, .hold, .hold) ∧
      zoneAt defaultConfig mixed 11478 = (.lowMargin, .hold, .hold, .accept) ∧
      zoneAt defaultConfig mixed 11527 = (.lowMargin, .hold, .hold, .accept) ∧
      zoneAt defaultConfig mixed 11528 = (.inBand, .hold, .accept, .accept) := by decide

theorem test_mixed_zones_high :
    zoneAt defaultConfig mixed 34650 = (.inBand, .hold, .accept, .accept) ∧
      zoneAt defaultConfig mixed 34651 = (.highMargin, .hold, .hold, .accept) ∧
      zoneAt defaultConfig mixed 34700 = (.highMargin, .hold, .hold, .accept) ∧
      zoneAt defaultConfig mixed 34701 = (.overweight, .ret .mismatch, .hold, .hold) ∧
      zoneAt defaultConfig mixed 60000 = (.overweight, .ret .mismatch, .hold, .hold) ∧
      zoneAt defaultConfig mixed 60001 = (.overLimit, .ret .heavy, .ret .heavy, .ret .heavy) := by decide

theorem test_rounding_term_by_term :
    bandLo defaultConfig { notes := 500, silver := 15, bronze := 7 } = 588 ∧
      bandHi defaultConfig { notes := 500, silver := 15, bronze := 7 } = 878 := by decide

theorem test_largest_notes :
    bandLo defaultConfig { notes := 2500000, silver := 0, bronze := 0 } = 4330 ∧
      bandHi defaultConfig { notes := 2500000, silver := 0, bronze := 0 } = 50520 := by decide

theorem test_largest_silver :
    bandLo defaultConfig { notes := 0, silver := 500000, bronze := 0 } = 65515 ∧
      bandHi defaultConfig { notes := 0, silver := 500000, bronze := 0 } = 65535 ∧
      lowerMargin defaultConfig { notes := 0, silver := 500000, bronze := 0 } = 65465 ∧
      upperMargin defaultConfig { notes := 0, silver := 500000, bronze := 0 } = 65585 := by decide

theorem test_tight_tare :
    zoneAt { defaultConfig with tareMin := 20, tareMax := 120, scaleTolerance := 100, margin := 500 }
        { notes := 0, silver := 10, bronze := 0 } 15 = (.underTare, .ret .empty, .ret .empty, .ret .empty) ∧
      zoneAt { defaultConfig with tareMin := 20, tareMax := 120, scaleTolerance := 100, margin := 500 }
        { notes := 0, silver := 10, bronze := 0 } 20 = (.inBand, .hold, .accept, .accept) ∧
      zoneAt { defaultConfig with tareMin := 20, tareMax := 120, scaleTolerance := 100, margin := 500 }
        { notes := 0, silver := 10, bronze := 0 } 600 = (.highMargin, .hold, .hold, .accept) ∧
      zoneAt { defaultConfig with tareMin := 20, tareMax := 120, scaleTolerance := 100, margin := 500 }
        { notes := 0, silver := 10, bronze := 0 } 900 = (.overweight, .ret .mismatch, .hold, .hold) := by decide

theorem test_night_band :
    bandLo defaultConfig { notes := 80000, silver := 0, bronze := 0 } = 458 ∧
      bandHi defaultConfig { notes := 80000, silver := 0, bronze := 0 } = 2120 := by decide

/-! ### The cabinet, the strays list, trust and listings -/

/-- A bin that holds a number of bags and a mass, for the scans of chapter 2. -/
def filled (n mass : Nat) : Bin :=
  { coldBin .inspect 0 with latch := .latched, op := .idle, contents := List.range n, massSum := mass }

/-- Section 2.7's scan with a fallback: rack 2 selected, rack 7 nearly full. -/
def fallback : State :=
  { base with
    selection := some { owner := .branch, rack := 2, phase := .active, holdEnd := some 600000 }
    alloc := { normalCursor := 38, inspectCursor := 124, normalSerial := 3041, inspectSerial := 118 }
    bins := (((Table.ofFn (fun i : BinIdx =>
      if i.val < 112 then { coldBin .normal 0 with latch := .latched, op := .idle } else filled 4 60000)).set 125
        { filled 0 0 with latch := .unsecured }).set 126 (filled 2 120000)).set 127 (filled 3 40000) }

theorem test_scan_picks_last_inspect_bin : fallback.allocate .inspect 32000 = some (.inspect, 127) := by decide
theorem test_scan_wraps_to_7_14 :
    ({ fallback with alloc := { fallback.alloc with inspectCursor := 127 }
                     bins := fallback.bins.set 127 (filled 4 72000) } : State).allocate .inspect 9000 =
      some (.inspect, 126) := by decide
theorem test_scan_falls_back_past_selected_rack :
    ({ fallback with bins := fallback.bins.set 127 (filled 4 72000) } : State).allocate .inspect 35000 =
      some (.normal, 48) := by decide

/-- A strays list of some tags. -/
def straysOf (tags : List Tag) : Strays :=
  { entries := tags.map (fun t => { tag := t, first := { bin := 0, pass := 0, time := { day := 0, second := 0 } },
                                    latest := { bin := 0, pass := 0, time := { day := 0, second := 0 } } })
    incomplete := false }

def sight : StraySighting := { bin := 50, pass := 880, time := { day := 9, second := 0 } }

theorem test_full_list_of_strays :
    ((((straysOf (List.range 15)).hand 5010000017 sight).entries.length = 16) ∧
      (((straysOf (List.range 15)).hand 5010000017 sight).hand 5010000044 sight).entries.length = 16) ∧
      (((straysOf (List.range 15)).hand 5010000017 sight).hand 5010000044 sight).incomplete = true := by decide

theorem test_trust_moves :
    shows (exec (.postResult .branch 1 12510) (withBag { bag with state := .taken, bin := none } base))
        (fun t => (t.dep 0).map (fun d => d.trust) == some 2) = true ∧
      shows (exec (.postResult .branch 1 12409) (withBag { bag with state := .taken, bin := none } base))
        (fun t => (t.dep 0).map (fun d => d.trust) == some 0) = true := by decide

/-- The six records of section 9's wrapped listing. -/
def wrapped : State :=
  { base with
    config := { defaultConfig with burstLength := 4, listOrder := .wrap }
    register := { base.register with records :=
      [(999996, 1), (999999, 2), (3, 3), (7, 4), (11, 5), (600020, 6)].map (fun p =>
        { bag with receipt := some p.1, tag := p.2 }) } }

/-- The receipts of a burst, MORE and the next start. -/
def burstSeen (t : State) : Option (List Nat × Bool × Option Nat) :=
  match answerOn .branch t with
  | some (.ok (.burst entries more next _)) => some (entries.map (fun e => e.receipt), more, next)
  | _ => none

theorem test_wrapped_listing :
    shows (exec (.list .branch 999990
        { states := 0x0C, flags := none, holdClass := none, depositor := none, result := none }) wrapped)
      (fun t => burstSeen t == some ([999996, 999999, 3, 7], true, some 8)) = true := by decide

theorem test_wrapped_listing_ends :
    shows (exec (.listNext .branch) (wrapped.setCursor (some
        { filter := { states := 0x0C, flags := none, holdClass := none, depositor := none, result := none },
          order := .wrap, burst := 4, start := 999990, next := 8, idleEnd := 230000 })))
      (fun t => burstSeen t == some ([11, 600020], false, none) && t.branch.cursor == none) = true := by decide

theorem test_week_day :
    ({ base with clock := { base.clock with day := 9416 }, config := { defaultConfig with weekOffset := 2 } } :
      State).weekDay = 3 := by decide

/-! ### Frames (R194) -/

/-- The check value of the digits 1 to 9 under the check of R194 (generator 0x1021, start 0xFFFF, no reflection). -/
theorem test_crc_check_value : crc [0x31, 0x32, 0x33, 0x34, 0x35, 0x36, 0x37, 0x38, 0x39] = 0x29B1 := by decide

theorem test_codes_by_link :
    carries .branch 0x22 = false ∧ carries .security 0x22 = true ∧ carries .courier 0x04 = false ∧
      carries .courier 0x56 = true ∧ carries .branch 0x57 = false ∧ carries .branch 0x39 = false := by decide

/-- Fields written out byte by byte from R197: LANE DRIVE of lane B's tip output for 1,500 ms, PUT BACK of tag
0123456789 into bin 1/10, SET CLOCK to day 9,412 at 43,200 s. -/
theorem test_fields_by_byte :
    parseRequest .branch 0x15 [0x01, 0x01, 0x05, 0xDC] = some (.laneDrive .branch .b .tip 1500) ∧
      parseRequest .branch 0x47 [0x01, 0x23, 0x45, 0x67, 0x89, 0x1A] =
        some (.putBack .branch 0x0123456789 26) ∧
      parseRequest .branch 0x71 [0x24, 0xC4, 0x00, 0xA8, 0xC0] = some (.setClock .branch 9412 43200) := by decide

theorem test_tag_digits : tagOf 0x0123456789 = some 123456789 ∧ tagOf 0x012345678A = none := by decide

theorem test_no_word_spells_a_command : decodeTableWord 8 0x01 = none := by decide

/-! ### States and operands that meet the statements' hypotheses: the queue, the links and the reads -/

theorem witness_StepTakesFrontCommand :
    ({ base with pending := [.newMinute, .mainsLoss] } : State).pending = .newMinute :: [.mainsLoss] := rfl

theorem witness_EmptyQueueCountsMillisecond :
    base.pending = [] ∧ base.clock.sound ∧
      ({ day := 65535, second := 86399, milli := 999, count := 7, isSet := true } : Clock).sound ∧
      base.power.batteryLow = false ∧ base.onMains = true ∧ retained.pending = [] ∧ retained.clock.sound ∧
      retained.power.batteryLow = true ∧ retained.onMains = false := by decide

/-- Lane A in LOAD, its timer running to a count. -/
def loadingTo (n : Nat) : State := laneWith (fun y => { y with state := .load, phaseTimer := some n }) base

/-- The step to the count 200,001 queues the expiry that falls due at it, and none that falls due later (log entry 15). -/
theorem test_due_expiry_joins_queue :
    shows (step (loadingTo 200001)) (fun t => t.pending == [.loadTimeout .a]) = true ∧
      shows (step (loadingTo 200002)) (fun t => t.pending == []) = true := by decide

theorem witness_commandsLeaveQueue : ∃ t, exec .newMinute base = .next t := ⟨_, rfl⟩

theorem witness_FrameCharactersRunRequest :
    (List.replicate 120 (0 : Byte)).length ≤ 120 ∧ base.canTake .branch = true ∧
      (base.link .branch).assembly.phase = .hunt := by decide

theorem witness_PayloadsReadBack :
    requestOf (.setClock .branch 65535 86399) = some (.branch, 0x71) ∧
      payloadOf (.setClock .branch 65535 86399) = some [0xFF, 0xFF, 0x01, 0x51, 0x7F] ∧
      requestOf (.setConfig .branch [.rackHoldMax 10, .silverDensity 60 650]) = some (.branch, 0x70) ∧
      payloadOf (.setConfig .branch [.rackHoldMax 10, .silverDensity 60 650]) =
        some [0x02, 0x0A, 0x0B, 0x00, 0x3C, 0x02, 0x8A] := by decide

/-- A link that sends a reply; a code its link does not carry. -/
theorem witness_RequestsTurnedAway :
    requestOf (.readSweep .courier) = some (.courier, 0x04) ∧ requestOf (.readLevel .branch) = some (.branch, 0x02) ∧
      sending.canTake .branch = false ∧ base.canTake .courier = true ∧ carries .courier 0x04 = false := by decide

/-- Payloads one byte too short or too long for any form of their code, and the shortest and longest that a form of
CLEAR STRAYS or ENROL takes. -/
theorem witness_optionalPartsSized :
    (List.replicate 14 (0 : Byte)).length < 15 ∧ 19 < (List.replicate 20 (0 : Byte)).length ∧
      2 < (List.replicate 3 (0 : Byte)).length ∧ (List.replicate 5 (0 : Byte)).length < 6 ∧
      15 < (List.replicate 16 (0 : Byte)).length ∧ 17 < (List.replicate 18 (0 : Byte)).length ∧
      fitsForm (.clearStrays .branch none) [] = true ∧ fitsForm (.clearStrays .branch (some 5)) [1, 5] = true ∧
      fitsForm (.clearStrays .branch (some 5)) [6] = false ∧
      fitsForm (.enrol .branch 0x111122223333 { levels := none, perBag := none, drops := none })
        [0x11, 0x11, 0x22, 0x22, 0x33, 0x33] = true := by decide

/-- A payload of the form is the request that its free reading spells (log entry 3). -/
theorem witness_optionalPartsSized_taken
    (h : Config.optionalForm .branch 0x38 [5] = some (.clearStrays .branch (some 5))) :
    parseRequest .branch 0x38 [5] = some (.clearStrays .branch (some 5)) := by
  simp only [parseRequest, formOptional, h]; decide

/-- Fields 2 and 7 as a SET CONFIG carries them; a number just below and just above those of R203, and a value one byte
short. -/
theorem witness_setConfigFormed :
    [((2 : Byte), [(10 : Byte)]), (7, [0, 0, 0x27, 0x10])] ≠ [] ∧
      (∀ f ∈ [((2 : Byte), [(10 : Byte)]), (7, [0, 0, 0x27, 0x10])], 1 ≤ f.1.toNat ∧ f.1.toNat ≤ 18 ∧
        f.2.length = if f.1.toNat = 7 then 4 else 1) ∧
      (0 : Byte).toNat = 0 ∧ 18 < (19 : Byte).toNat ∧ [(0 : Byte), 0, 0x27].length < 4 := by decide

/-- SET CONFIG payloads from R203 and R197: rack hold maximum 10; then the tare band 350 to 500 dg after a count
tolerance of 10,000 p; and one of the first with a byte too many. -/
theorem test_setConfig_payloads :
    parseRequest .branch 0x70 [2, 10] = some (.setConfig .branch [.rackHoldMax 10]) ∧
      parseRequest .branch 0x70 [7, 0, 0, 0x27, 0x10, 10, 0, 0x01, 0x5E, 0, 0x01, 0xF4] =
        some (.setConfig .branch [.countTolerance 10000, .tareBand 350 500]) ∧
      parseRequest .branch 0x70 [1, 2, 10] = none := by decide

/-- A READ LEVEL frame with a wrong check, and lengths just above 120 and of the start byte's own value. -/
theorem witness_badFramesDropped :
    base.canTake .branch = true ∧ (base.link .branch).assembly.phase = .hunt ∧ 120 < (121 : Byte).toNat ∧
      120 < (0x7E : Byte).toNat ∧ ([] : List Byte).length ≤ 120 ∧
      [0x00, 0x00] ≠ bytesOf 2 (crc (BitVec.ofNat 8 ([] : List Byte).length :: 0x02 :: [])).toNat := by decide

theorem test_long_frame_dropped : receiveAll .branch [0x7E, 0x7E] base = .next (base.hunt .branch) := rfl

theorem test_bad_check_dropped : receiveAll .branch [0x7E, 0x00, 0x02, 0x00, 0x00] base = .next (base.hunt .branch) := rfl

theorem witness_RefusalsChangeNothing :
    requestOf (.confirm .branch) = some (.branch, 0x21) ∧ base.canTake .branch = true ∧
      exec (.confirm .branch) base = .next (base.reply .branch 0x21 (.refuse .state)) ∧
      ((base.reply .branch 0x21 (.refuse .state)).link .branch).exchange =
        .answering { code := BitVec.ofNat 8 0x21, answer := .refuse .state } := ⟨rfl, rfl, rfl, rfl⟩

/-- The branch link part-way through a frame, its last character the given number of milliseconds old. -/
def midFrame (gap : Nat) : State :=
  base.setLink .branch { base.branch with assembly := { phase := .length, bytes := [], lastEnd := 200000 - gap } }

/-- The branch link in a break. -/
def broken (since : Nat) : State := base.setLink .branch { base.branch with line := .space since false }

theorem witness_linkEventsAct :
    (base.canTake .branch = true ∧ carries .branch (0x09 : BitVec 8).toNat = false) ∧
      ((midFrame 51).linkRuns .branch = true ∧ ((midFrame 51).link .branch).assembly.phase ≠ .hunt ∧
        50 < (midFrame 51).now - ((midFrame 51).link .branch).assembly.lastEnd) ∧
      (midFrame 50).now - ((midFrame 50).link .branch).assembly.lastEnd ≤ 50 ∧
      (base.link .branch).line = .mark ∧ ((broken 0).linkRuns .branch = true ∧ ((broken 0).link .branch).line ≠ .mark) ∧
      (base.link .branch).exchange = .idle ∧ (base.link .branch).assembly.phase = .hunt ∧
      retained.linkRuns .branch = false ∧ (sending.link .branch).exchange ≠ .idle := by decide

theorem witness_linkResetClearsLink :
    (broken 199900).linkRuns .branch = true ∧ ((broken 199900).link .branch).line = .space 199900 false ∧
      199900 + 100 ≤ (broken 199900).now := by decide

theorem witness_sharedReadsReport :
    base.canTake .security = true ∧ 8 ≤ (8 : BitVec 8).toNat ∧ Link.security ≠ .courier := by decide

/-- The ends of the ranges of R197: a byte, a tag serial, a card number, a capture and a margin bound. -/
theorem witness_fieldsInTheirSizes :
    255 < 256 ^ 1 ∧ 2500000 < 256 ^ 4 ∧ 9999999999 < 10000000000 ∧ 999999999999 < 1000000000000 ∧
      (65535 : Nat) ≤ 65535 ∧ (-2147483648 : Int) ≤ -2147483648 ∧ (2147483647 : Int) < 2147483648 ∧
      [(0x05 : Byte)] = reasonBytes { noReasons with level := true, clock := true } := by decide

/-- Fields of replies written out byte by byte from R197: tag 1234567890, card 111122223333, a margin bound of -50. -/
theorem test_reply_fields_by_byte :
    tagBytes 1234567890 = [0x12, 0x34, 0x56, 0x78, 0x90] ∧
      cardBytes 111122223333 = [0x11, 0x11, 0x22, 0x22, 0x33, 0x33] ∧ boundBytes (-50) = [0xFF, 0xFF, 0xFF, 0xCE] ∧
      momentBytes { day := 9412, second := 43200 } = [0x24, 0xC4, 0x00, 0xA8, 0xC0] := by decide

/-- Four strays are the most of one part of READ STRAYS. -/
theorem witness_resultSizes : (straysOf (List.range 4)).entries.length ≤ 4 ∧ (takenReport bag).receipt = some 1 := by decide

theorem witness_readNoticesEmptiesSet :
    base.canTake .courier = true ∧ Link.branch ≠ .courier := by decide

/-! ### The lanes from the branch and the acceptance check -/

/-- Lane A in SERVICE, its tip output perhaps pulsing. -/
def inService (pulse : Option Nat) : State :=
  laneWith (fun y => { y with state := .service, reasons := { noReasons with service := true }
                              tip := { on := pulse.isSome, high := false, pulseEnd := pulse } }) base

/-- Lane A CLOSED with a set of reasons and perhaps a bag in the drawer. -/
def shut (reasons : CloseSet) (bagIn : Bool) (s : State) : State :=
  laneWith (fun y => { y with state := .closed, reasons := reasons, inputs := { y.inputs with bagPresent := bagIn } }) s

/-- Lane A in a state of its own. -/
def laneIn (x : LaneState) (s : State) : State := laneWith (fun y => { y with state := x }) s

def forcedOnly : CloseSet := { noReasons with forced := true }

theorem witness_laneStatusReports : base.canTake .branch = true := by decide

theorem witness_laneCloseAddsBranch :
    (base.lane .a).state = .idle ∧ ((shut forcedOnly false base).lane .a).isClosed = true ∧
      (((laneIn .declare base).lane .a).state ≠ .idle ∧ ((laneIn .declare base).lane .a).isClosed = false) ∧
      (laneIn .declare base).canTake .branch = true := by decide

theorem witness_laneOpenRemovesReasons :
    (inService none).canTake .branch = true ∧ ((inService none).lane .a).state = .service ∧
      ((laneWith (fun y => { y with inputs := { y.inputs with drawerForced := true } }) base).lane .a).inputs.drawerForced =
        true ∧
      ((shut { forcedOnly with power := true } false base).lane .a).state ≠ .service ∧
      ((shut { forcedOnly with power := true } false base).lane .a).inputs.drawerForced = false ∧
      ((shut { forcedOnly with power := true } false base).lane .a).isClosed = true ∧
      { ((shut { forcedOnly with power := true } false base).lane .a).reasons with
        branch := false, forced := false, jammed := false, diverter := false } ≠ noReasons ∧
      ((laneIn .declare base).lane .a).isClosed = false := by decide

/-- Lane A closed by FORCED while a route runs, with a bolt that is or is not locked. -/
def routeShut (locked : Bool) : State :=
  laneWith (fun y => { y with
    state := .closed, reasons := forcedOnly, inputs := { y.inputs with drawerLocked := locked }
    route := some { record := bag.tag, tipTime := { day := 1, second := 43199 }, tipCount := 199000, sensor := false,
                    arrivalRead := none } }) (withBag flyingBag base)

theorem witness_laneOpenRemovesReasons_route :
    ∀ locked, (routeShut locked).canTake .branch = true ∧ ((routeShut locked).lane .a).state ≠ .service ∧
      ((routeShut locked).lane .a).inputs.drawerForced = false ∧ ((routeShut locked).lane .a).isClosed = true ∧
      ((routeShut locked).lane .a).reasons ≠ noReasons ∧ ((routeShut locked).lane .a).reasons.opened = noReasons ∧
      ((routeShut locked).lane .a).route.isSome = true := by decide

/-- The lane goes to CLOSED behind the route, and its unlocked drawer gets a lock pulse there (R57). -/
theorem test_closed_lane_locks :
    shows (exec (.laneOpen .branch .a) (routeShut false)) (fun t => t.laneA.state == .closed && t.laneA.lock.on &&
      t.laneA.lockGoal == some { wantLocked := true, confirmBy := none }) = true := by decide

/-- The opening check with and without a bag, with and without a RESERVED record. -/
theorem witness_openingCheckDecides :
    (∀ bagIn, ∀ s ∈ [shut forcedOnly bagIn base, shut forcedOnly bagIn (withBag reservedBag base)],
      s.canTake .branch = true ∧ (s.lane .a).state = .closed ∧ (s.lane .a).inputs.drawerForced = false ∧
        (s.lane .a).route = none ∧ (s.lane .a).reasons ≠ noReasons ∧ (s.lane .a).reasons.opened = noReasons ∧
        (s.lane .a).inputs.bagPresent = bagIn) ∧
      (shut forcedOnly false base).reservedOf .a = none ∧
      (shut forcedOnly true (withBag reservedBag base)).reservedOf .a = some reservedBag ∧
      ((laneWith (fun y => { y with state := .jammed, reasons := { noReasons with jammed := true } }) base).lane .a).state =
        .jammed := by decide

/-- The bag RESERVED from a cursor that stood at bin 5, its bin the cursor's now; and a later bag of its class. -/
def fromFive : BagRecord := { reservedBag with reservation := some { cls := .normal, serial := 65535, saved := 5 } }

def laterBag : BagRecord :=
  { fromFive with tag := 7, lane := .b, reservation := some { cls := .normal, serial := 0, saved := 0 } }

/-- A rollback restores the cursor (R43), but not past a later reservation of the class, whose serial has wrapped. -/
theorem test_rollback_cursor :
    shows (exec (.laneOpen .branch .a) (shut forcedOnly false (withBag fromFive base)))
        (fun t => t.alloc.normalCursor == 5 && t.register.records == []) = true ∧
      shows (exec (.laneOpen .branch .a)
          (shut forcedOnly false { base with register := { base.register with records := [fromFive, laterBag] } }))
        (fun t => t.alloc.normalCursor == 0 && t.register.records == [laterBag]) = true := by decide

/-- A lane CLOSED after SERVICE with another reason, with none, with and without a bag. -/
def serviced (extra bagIn : Bool) : State :=
  laneWith (fun y => { y with state := .service, reasons := { noReasons with service := true, forced := extra }
                              inputs := { y.inputs with bagPresent := bagIn } }) base

theorem witness_laneServiceAndEnd :
    (base.canTake .branch = true ∧ (base.lane .a).state = .idle ∧
      (∀ r ∈ base.register.records, r.lane = .a → r.state ≠ .reserved ∧ r.state ≠ .inFlight) ∧
      (base.lane .a).route = none) ∧
      ((laneIn .weigh base).lane .a).state = .weigh ∧
      (∃ r ∈ (withBag flyingBag base).register.records, r.lane = .a ∧ (r.state = .reserved ∨ r.state = .inFlight)) ∧
      (∀ extra bagIn, ((serviced extra bagIn).lane .a).state = .service ∧
        ((serviced extra bagIn).lane .a).reasons.service = true ∧ ((serviced extra bagIn).lane .a).route = none ∧
        (serviced extra bagIn).reservedOf .a = none ∧ ((serviced extra bagIn).lane .a).inputs.bagPresent = bagIn ∧
        ({ ((serviced extra bagIn).lane .a).reasons with service := false } = noReasons ↔ extra = false)) := by
  decide

theorem witness_laneDriveDrives :
    (∀ pulse ∈ [none, some 200001], (inService pulse).canTake .branch = true ∧
      ((inService pulse).lane .a).state = .service ∧ ((inService pulse).lane .a |>.output .tip).pulseEnd = pulse) ∧
      5000 < (5001 : BitVec 16).toNat ∧ (5000 : BitVec 16).toNat ≤ 5000 ∧ 1 ≤ (1 : BitVec 16).toNat ∧
      (0 : BitVec 16).toNat = 0 ∧ base.canTake .branch = true ∧ (base.lane .a).state ≠ .service := by decide

/-- A configuration with the smallest tare band, no margin and the widest tolerance. -/
def edgeConfig : ConfigWord := { defaultConfig with tareMin := 0, tareMax := 0, margin := 0, scaleTolerance := 100 }

theorem witness_acceptance : defaultConfig.sound ∧ edgeConfig.sound ∧ (0 : Nat) ≤ 3 ∧ (3 : Nat) ≤ 3 := by
  refine ⟨⟨?_, ?_, ?_, ?_, ?_, ?_, ?_, ?_, ?_, ?_, ?_, ?_, ?_, ?_, ?_, ?_⟩,
    ⟨?_, ?_, ?_, ?_, ?_, ?_, ?_, ?_, ?_, ?_, ?_, ?_, ?_, ?_, ?_, ?_⟩, ?_, ?_⟩ <;> decide

/-- The rounded-up terms of the declaration of N = 500, S = 15, B = 7: 10, 98 and 250. -/
theorem witness_SumsClampInOrder :
    500 * 10 < 500 * 10 + 500 ∧ 500 * 10 ≤ 500 * 10 ∧ 100 * 98 < 15 * defaultConfig.silverHigh + 100 ∧
      15 * defaultConfig.silverHigh ≤ 100 * 98 ∧ 100 * 250 < 7 * defaultConfig.bronzeHigh + 100 ∧
      7 * defaultConfig.bronzeHigh ≤ 100 * 250 ∧ edgeConfig.tareMin ≤ edgeConfig.tareMax ∧
      edgeConfig.silverLow ≤ edgeConfig.silverHigh ∧ edgeConfig.bronzeLow ≤ edgeConfig.bronzeHigh := by decide

/-- A TRIAL CHECK just out of range in one amount, and one at every limit, by trust, by index and at a VACANT entry. -/
theorem witness_trialCheckAnswers :
    base.canTake .branch = true ∧ 2500000 < (2500500 : BitVec 32).toNat ∧
      ((2500000 : BitVec 32).toNat ≤ 2500000 ∧ (2500000 : BitVec 32).toNat % 500 = 0 ∧
        (500000 : BitVec 32).toNat ≤ 500000 ∧ (500000 : BitVec 32).toNat % 5 = 0 ∧
        (50000 : BitVec 32).toNat ≤ 50000 ∧
        ({ notes := 2500000, silver := 500000, bronze := 50000 } : Declaration).total ≠ 0) ∧
      (65535 : BitVec 24).toNat ≤ 65535 ∧ (0xFFFFFF : BitVec 24).toNat = 0xFFFFFF ∧ (3 : BitVec 8).toNat ≤ 3 ∧
      base.dep (depOf 0) = some holder ∧ base.dep (depOf 255) = none := by decide

/-! ### Levels -/

/-- A raise to a level, RAISING to the count 200,000 or READY from then to 500,000. -/
def raiseTo (target : Level) (phase : RaisePhase) : Raise :=
  { phase := phase, target := target, start := { day := 1, second := 43000 }, startCount := 0, delayEnd := 200000,
    confirmEnd := if phase = .ready then some 200000 else none }

/-- SEALED in force with a raise under way, asked for by the branch or, logged in, by the courier. -/
def raising (target : Level) (phase : RaisePhase) (byBranch : Bool) : State :=
  { base with
    levels := { branchRequest := if byBranch then target else .sealed
                courierRequest := if byBranch then .nothing else .courier
                ceiling := .opened, duress := false, allowance := .opened, target := target, effective := .sealed
                raise := some (raiseTo target phase) }
    manifest := manifestIn .active [] }

theorem witness_ArbiterFollowsTarget :
    Level.rank .sealed ≤ (atLevel .inspect).levels.effective.rank ∧
      (raising .opened .raising true).levels.effective.rank < Level.rank .opened ∧ base.levels.raise = none ∧
      (raising .opened .raising true).levels.raise = some (raiseTo .opened .raising) ∧
      (raising .opened .ready true).levels.raise = some (raiseTo .opened .ready) := by decide

/-- A raise that becomes READY for the branch; one that stays READY for a branch that had no raise to confirm; one for
the crew; and one that neither may confirm. -/
theorem witness_ArbiterFollowsTarget_notices :
    (raising .opened .raising true).inRetention = false ∧
      ((raiseTo .opened .raising).startCount + base.config.openingDelay * 60000 ≤
          ({ (raising .opened .raising true) with clock := { base.clock with count := 900000 } } : State).now ∧
        Level.rank .opened ≤ (raising .opened .raising true).levels.branchRequest.rank) ∧
      (∀ b ∈ (none : Option Raise), base.levels.branchRequest.rank < b.target.rank) ∧
      ((raiseTo .courier .raising).startCount + base.config.courierDelay * 60000 ≤ base.now ∧
        (raising .courier .raising false).levels.courierRequest = .courier) ∧
      ¬ Level.rank .courier ≤ (raising .courier .raising false).levels.branchRequest.rank ∧
      retained.inRetention = true := by decide

/-- The crew's raise, its delay of 0 over, is READY at the recomputation, and the courier port alone is told (R117). -/
theorem test_ready_notice_to_crew :
    ((raising .courier .raising false).arbitrate base.levels).courier.notices = 0x01 ∧
      ((raising .courier .raising false).arbitrate base.levels).branch.notices = 0x00 := by decide

theorem witness_branchRequestTaken : base.canTake .branch = true ∧ Level.rank .opened = 3 := by decide

theorem witness_courierRequestTaken :
    base.canTake .courier = true ∧ base.loggedIn = false ∧ (raising .courier .ready false).canTake .courier = true ∧
      (raising .courier .ready false).loggedIn = true ∧ ((0 : BitVec 8).toNat ≠ 1 ∧ (0 : BitVec 8).toNat ≠ 255) ∧
      (1 : BitVec 8).toNat = 1 ∧ (255 : BitVec 8).toNat = 255 := by decide

theorem raising_sound (target : Level) (phase : RaisePhase) (byBranch : Bool) (h : target ≠ .sealed)
    (hc : byBranch = false → target = .courier) : (raising target phase byBranch).levels.sound := by
  cases target <;> cases phase <;> cases byBranch <;> first | (exact absurd rfl h) | (exact absurd (hc rfl) (by decide)) |
    (refine ⟨rfl, by decide, by decide, by decide, ?_⟩; intro r hr; cases hr; exact ⟨rfl, by decide, by decide⟩)

theorem atLevel_sound (a : Level) : (atLevel a).levels.sound := by
  cases a <;> exact ⟨rfl, by decide, by decide, by decide, fun r hr => by simp [atLevel] at hr⟩

/-- READY to COURIER for the crew; READY to OPEN for the branch, which then may and the crew may not confirm. -/
theorem witness_ConfirmCompletesRaise :
    (Link.branch ≠ .security ∧ Link.courier ≠ .security) ∧
      (base.canTake .courier = true ∧ base.loggedIn = false ∧ base.levels.sound) ∧
      (∀ l, (raising .opened .raising true).canTake l = true ∧
        (raising .opened .raising true).levels.raise.any (fun r => r.phase == .raising) = true) ∧
      ((raising .opened .ready true).loggedIn = true ∧ (raiseTo .opened .ready).phase = .ready ∧
        (raising .opened .ready true).levels.courierRequest = .nothing) ∧
      (raising .courier .ready false).levels.branchRequest.rank < (raiseTo .courier .ready).target.rank ∧
      (raiseTo .opened .ready).target.rank ≤ (raising .opened .ready true).levels.branchRequest.rank ∧
      ((raising .courier .ready false).levels.courierRequest = .courier ∧
        (raiseTo .courier .ready).target = .courier) ∧ (raising .opened .ready true).levels.sound := by
  refine ⟨by decide, ⟨by decide, by decide, ⟨rfl, by decide, by decide, by decide, fun r hr => by simp [base, State.reset, sealedArbiter] at hr⟩⟩, ?_,
    by decide, by decide, by decide, by decide, raising_sound _ _ _ (by decide) (by decide)⟩
  intro l; cases l <;> decide

def underDuress : State := { base with levels := sealedArbiter true }

theorem witness_CeilingAndDuress :
    base.canTake .security = true ∧ 3 < (4 : BitVec 8).toNat ∧ (3 : BitVec 8).toNat ≤ 3 ∧
      underDuress.canTake .security = true ∧ underDuress.levels.duress = true ∧
      Level.rank .opened = (3 : BitVec 8).toNat ∧ base.levels.duress = false := by decide

/-- Two bins of rack 0 standing open, one with its door CLOSED and one with it OPEN. -/
def standing (p : Party) : State :=
  ((picked p .active).modBin 1 (fun b => { b with latch := .unlatched })).modBin 2 (fun b =>
    { b with latch := .unlatched, door := .opened, doorFilter := (.opened, .opened) })

theorem witness_LoweringShutsBins :
    (standing .branch).canTake .security = true ∧ (standing .branch).levels.duress = false ∧
      (standing .branch).levels.effective ≠ .sealed ∧ (standing .branch).selectedRack = some (rackOf 1) ∧
      (((standing .branch).bin 1).standsOpen = true ∧ ((standing .branch).bin 1).door = .closed) ∧
      (((standing .branch).bin 2).standsOpen = true ∧ ((standing .branch).bin 2).door = .opened) ∧
      ((standing .branch).bin 15).standsOpen = false ∧ (standing .branch).selectedRack ≠ some (rackOf 16) := by decide

/-- Rack 7 selected by the branch at OPEN, an INSPECT bin standing open and one put into service as NORMAL beside it. -/
def lowering : State :=
  (({ atLevel .opened with selection := some { choice .branch .active with rack := 7 } } : State).modBin 112 (fun b =>
    { b with latch := .unlatched })).modBin 113 (fun b => { b with latch := .unlatched, cls := .normal })

theorem witness_LoweringShutsBins_partly :
    lowering.canTake .branch = true ∧ Level.rank .inspect = (2 : BitVec 8).toNat ∧
      Level.rank .inspect < lowering.levels.effective.rank ∧ lowering.levels.courierRequest = .nothing ∧
      lowering.reservedOf .a = none ∧ lowering.reservedOf .b = none ∧
      ({ lowering with levels := { lowering.levels with branchRequest := .inspect } } : State).levels.supported.rank <
        lowering.levels.effective.rank ∧
      (lowering.selection = some { choice .branch .active with rack := 7 } ∧ rackOf 112 = 7 ∧
        (lowering.bin 112).standsOpen = true ∧ (lowering.bin 112).cls = .inspect) ∧
      ((lowering.bin 113).standsOpen = true ∧ (lowering.bin 113).cls ≠ .inspect ∧ (lowering.bin 113).door = .closed) := by
  decide

/-- From OPEN to INSPECT a bin the selection's owner may still open keeps its state (R114). -/
theorem test_lowering_keeps_permitted :
    shows (exec (.requestLevel .branch 2) lowering)
      (fun t => (t.bin 112).latch == .unlatched && (t.bin 112).op == .idle &&
        (t.bin 113).op == .engaging 200000 false) = true := by decide

/-- One value out of range for each field of SET WINDOW, and the widest window. -/
theorem witness_WindowsGiveAllowance :
    base.canTake .security = true ∧ 8 ≤ (8 : BitVec 8).toNat ∧ 128 ≤ (128 : BitVec 8).toNat ∧
      1439 < (1440 : BitVec 16).toNat ∧ 1440 < (1441 : BitVec 16).toNat ∧ 3 < (4 : BitVec 8).toNat ∧
      ({ days := 127, startMinute := 0, endMinute := 1440, level := .opened } : Window).sound ∧
      ({ days := 1, startMinute := 1439, endMinute := 1440, level := .sealed } : Window).sound := by decide

theorem witness_raiseDelayRunsOut :
    (raising .opened .raising true).levels.raise = some (raiseTo .opened .raising) ∧
      (raiseTo .opened .raising).phase = .raising ∧
      (raiseTo .opened .raising).delayEnd ≤ (raising .opened .raising true).now ∧
      ({ (raising .opened .raising true) with clock := { base.clock with count := 199999 } } : State).now <
        (raiseTo .opened .raising).delayEnd := by decide

theorem witness_readyRaiseLapses :
    (raising .opened .ready true).levels.sound ∧
      (raising .opened .ready true).levels.raise = some (raiseTo .opened .ready) ∧
      (raiseTo .opened .ready).phase = .ready ∧ (raiseTo .opened .ready).confirmEnd = some 200000 ∧
      200000 ≤ (raising .opened .ready true).now ∧
      ({ (raising .opened .ready true) with clock := { base.clock with count := 199999 } } : State).now < 200000 :=
  ⟨raising_sound _ _ _ (by decide) (by decide), by decide, by decide, by decide, by decide, by decide⟩

theorem witness_LevelRisesOnlyByConfirm : ∃ t, exec (.confirm .branch) (raising .opened .ready true) = .next t ∧
    (raising .opened .ready true).levels.effective.rank < t.levels.effective.rank := ⟨_, rfl, by decide⟩

/-- The branch link after the first three of a frame's four bytes from CONFIRM's length on. -/
def confirming : State :=
  let s := raising .opened .ready true
  { s with branch := { s.branch with
    assembly := { phase := .check, bytes := [0x00, 0x21, (frame 0x21 []).getD 3 0], lastEnd := s.now } } }

/-- The last character of CONFIRM's frame raises the level. -/
theorem witness_LevelRisesOnlyByConfirm_frame :
    (frame 0x21 []).length = 5 ∧
      shows (exec (.characterReceived .branch ((frame 0x21 []).getD 4 0) false) confirming)
        (fun t => decide (confirming.levels.effective.rank < t.levels.effective.rank)) = true := by decide

theorem witness_StepKeepsLevelsSound : (raising .opened .ready true).levels.sound ∧
    ∃ t, step { (raising .opened .ready true) with pending := [.confirm .branch] } = .next t :=
  ⟨raising_sound _ _ _ (by decide) (by decide), _, rfl⟩

/-! ### Racks, bins and latches -/

/-- Every claim about the one selection is a claim about `choice`. -/
theorem picked_is (p : Party) (phase : SelectionPhase) {q : Selection → Prop} (h : q (choice p phase)) :
    ∀ x, (picked p phase).selection = some x → q x := by
  intro x hx
  simp only [picked, Option.some.injEq] at hx
  exact hx ▸ h

/-- A rack read that has run its 2 s. -/
def reading (rack : RackIdx) (asker : Asker) : State :=
  let r : ReadPart := { rack := rack, asker := asker, start := { day := 1, second := 0 }, startCount := 198000 }
  { base with sweep := { base.sweep with read := some r, step := if asker = .step then .reading else .timing } }

theorem witness_SelectRackClaims :
    (Link.branch ≠ .security ∧ base.canTake .branch = true ∧ 8 ≤ (8 : BitVec 8).toNat) ∧
      (base.canTake .courier = true ∧ base.loggedIn = false) ∧ State.reset.inInventory = true ∧
      (reading 7 .step).grant = .read ∧
      ((picked .branch .releasing).selection = some (choice .branch .releasing) ∧
        (choice .branch .releasing).phase = .releasing ∧ (choice .courier .active).owner ≠ partyOf .branch) ∧
      ((choice .branch .active).rack ≠ 7 ∧ (standing .branch).rackQuiet 0 = false) ∧
      (base.inInventory = false ∧ base.grant ≠ .read ∧ base.selection = none) ∧
      (∀ x, (picked .branch .active).selection = some x →
        x.owner = partyOf .branch ∧ x.phase = .active ∧ (x.rack = 7 ∨ (picked .branch .active).rackQuiet x.rack = true)) ∧
      ({ base.sweep with step := .waiting } : Sweep).step = .waiting ∧ base.sweep.pointer = 0 ∧
      base.sweep.pendingStep = false :=
  ⟨by decide, by decide, by decide, by decide, by decide, by decide, by decide,
    picked_is _ _ (by decide), by decide, by decide, by decide⟩

/-- One bin of rack 0 changed, under a selection at OPEN; the crew is logged in. -/
def binAs (p : Party) (f : Bin → Bin) : State :=
  ({ picked p .active with manifest := manifestIn .active [1] } : State).modBin 1 f

/-- The crew's bin holds a LISTED bag. -/
def crewAt : State :=
  withBag { bag with state := .listed } { picked .courier .active with manifest := manifestIn .active [1] }

theorem witness_unlatchBinActs :
    (16 ≤ (16 : BitVec 8).toNat ∧ base.canTake .branch = true ∧ base.selection = none) ∧
      (∀ f ∈ [(fun b => { b with op := .releasing 0 } : Bin → Bin), fun b => { b with latch := .fault }, id],
        (binAs .branch f).canTake .branch = true ∧ (binAs .branch f).selection = some (choice .branch .active)) ∧
      (choice .branch .active).owner = partyOf .branch ∧ (choice .branch .active).phase = .active ∧
      binAt (choice .branch .active).rack 1 = 1 ∧
      ((binAs .branch (fun b => { b with op := .releasing 0 })).bin 1).op.inProgress = true ∧
      ((binAs .branch (fun b => { b with latch := .fault })).bin 1).op.inProgress = false ∧
      ((binAs .branch (fun b => { b with latch := .fault })).bin 1).latch = .fault ∧
      (((binAs .branch id).bin 1).latch ≠ .fault ∧ (binAs .branch id).levels.effective = .opened) ∧
      (atLevel .courier).levels.effective ≠ .opened ∧
      (crewAt.canTake .courier = true ∧ 1 ≤ crewAt.levels.effective.rank ∧ crewAt.loggedIn = true ∧
        (∃ t ∈ (crewAt.bin 0).contents, ((crewAt.findTag t).any (fun r => r.state == .listed)) = true)) ∧
      (crewAt.bin 1).contents = [] := by decide

theorem witness_relatchBinActs :
    (base.selection = none ∧ base.canTake .courier = true ∧ 16 ≤ (255 : BitVec 8).toNat) ∧
      (binAs .branch id).selection = some (choice .branch .active) ∧
      ((binAs .branch (fun b => { b with op := .engaging 0 false })).bin 1).op.inProgress = true ∧
      (((binAs .branch id).bin 1).door = .closed ∧ ((binAs .branch id).bin 1).latch = .latched ∧
        ((binAs .branch id).bin 1).op.inProgress = false) ∧
      ((binAs .branch (fun b => { b with latch := .unlatched })).bin 1).latch ≠ .latched ∧
      (((binAs .branch (fun b => { b with latch := .fault, door := .opened })).bin 1).door = .opened ∧
        ((binAs .branch (fun b => { b with latch := .fault, door := .opened })).bin 1).latch = .fault) ∧
      (((binAs .branch (fun b => { b with latch := .unlatched, door := .opened })).bin 1).latch = .unlatched ∧
        ((binAs .branch (fun b => { b with latch := .unlatched, door := .opened })).bin 1).op = .idle) ∧
      ((binAs .branch (fun b => { b with latch := .unsecured, door := .opened })).bin 1).latch ≠ .fault ∧
      ((binAs .branch (fun b => { b with latch := .unsecured, door := .opened })).bin 1).latch ≠ .unlatched := by
  decide

theorem witness_releaseRackLetsGo :
    (base.canTake .courier = true ∧ base.loggedIn = false) ∧ base.selection = none ∧
      (standing .branch).canTake .branch = true ∧ (standing .branch).selection = some (choice .branch .active) ∧
      (choice .branch .active).owner = partyOf .branch ∧
      (picked .branch .releasing).selection = some (choice .branch .releasing) ∧
      (picked .branch .releasing).canTake .branch = true := by decide

theorem witness_holdExpiryLetsGo :
    (standing .branch).selection = some (choice .branch .active) ∧ (choice .branch .active).phase = .active ∧
      (choice .branch .active).holdEnd = some 200000 ∧ 200000 ≤ (standing .branch).now ∧
      ({ standing .branch with clock := { base.clock with count := 199999 } } : State).now < 200000 := by decide

theorem witness_letsRackGo :
    (rackOf 1 = (choice .branch .active).rack ∧ ((standing .branch).bin 1).standsOpen = true ∧
      ((standing .branch).bin 1).door = .closed) ∧
      (((standing .branch).bin 2).standsOpen = true ∧ ((standing .branch).bin 2).door = .opened) ∧
      rackOf 16 ≠ (choice .branch .active).rack ∧ ((standing .branch).bin 3).standsOpen = false ∧
      ∀ k, ((picked .branch .active).bin (binAt 0 k)).standsOpen = true →
        ((picked .branch .active).bin (binAt 0 k)).door = .closed := by decide

/-- Bin 7/00, of the INSPECT class, standing open at INSPECT under the branch's selection. -/
def inspecting (door : Door) : State :=
  ({ atLevel .inspect with selection := some { choice .branch .active with rack := 7 } } : State).modBin 112 (fun b =>
    { b with latch := .unlatched, door := door })

theorem witness_WithdrawAndRestoreBins :
    128 ≤ (128 : BitVec 8).toNat ∧ (127 : BitVec 8).toNat = (127 : BinIdx).val ∧ base.canTake .branch = true ∧
      base.selection = none ∧
      (∀ door, (inspecting door).canTake .branch = true ∧
        (inspecting door).selection = some { choice .branch .active with rack := 7 } ∧
        (inspecting door).levels.effective = .inspect ∧ ((inspecting door).bin 112).standsOpen = true ∧
        ((inspecting door).bin 112).door = door ∧ rackOf 112 = 7) ∧
      (base.bin 127).cls ≠ .outOfService ∧
      ((base.modBin 5 (fun b => { b with cls := .outOfService, latch := .fault })).bin 5).latch = .fault ∧
      (((base.modBin 5 (fun b => { b with cls := .outOfService })).bin 5).cls = .outOfService ∧
        ((base.modBin 5 (fun b => { b with cls := .outOfService })).bin 5).latch ≠ .fault) := by
  refine ⟨by decide, by decide, by decide, by decide, ?_, by decide, by decide, by decide⟩
  intro door; cases door <;> decide

/-- A bin that no wait can be read from is not waiting. -/
theorem no_wait {b : Bin} (h : b.op.inProgress = true ∨ b.op = .idle) (n : Nat) : b.op ≠ .waitingForDoor n := by
  intro e
  rcases h with h | h
  · rw [e] at h; simp [LatchOp.inProgress] at h
  · rw [e] at h; cases h

/-- One bin for each row of R125's table that a door change can reach. -/
theorem witness_doorChangesAct :
    (base.bin 1).door = .closed ∧ retained.inRetention = true ∧ base.inRetention = false ∧
      (base.bin 1).doorSound ∧ ((base.bin 1).latch = .latched ∧ (base.bin 1).op = .idle) ∧
      ((binAs .branch (fun b => { b with op := .releasing 0 })).bin 1).op.releasingSince.isSome = true ∧
      ((standing .branch).bin 1).op = .idle ∧ ((standing .branch).bin 2).latch = .unlatched ∧
      (((binAs .branch (fun b => { b with latch := .unsecured, door := .opened })).bin 1).latch = .unsecured ∧
        ((binAs .branch (fun b => { b with latch := .unsecured, door := .opened })).bin 1).op = .idle) ∧
      ((binAs .branch (fun b => { b with latch := .unlatched, door := .opened, op := .waitingForDoor 9 })).bin 1).op =
        .waitingForDoor 9 ∧
      (((binAs .branch (fun b => { b with latch := .fault, op := .engaging 9 true })).bin 1).op = .engaging 9 true ∧
        ((binAs .branch (fun b => { b with latch := .fault, op := .engaging 9 true })).bin 1).latch = .fault) ∧
      ((binAs .branch (fun b => { b with latch := .unlatched, op := .engaging 9 true })).bin 1).op = .engaging 9 true ∧
      ((binAs .branch (fun b => { b with latch := .unsecured, op := .engaging 9 false })).bin 1).latch = .unsecured := by
  refine ⟨by decide, by decide, by decide, ⟨by decide, by decide, fun n h => ?_, by decide⟩, by decide, by decide,
    by decide, by decide, by decide, by decide, by decide, by decide, by decide⟩
  exact absurd h (no_wait (.inr (by decide)) n)

/-- A bin in the selected rack permitted to the selection's owner at OPEN and not at SEALED, and a state
with no selection. -/
theorem witness_levelPermits (f : Bin → Bin) :
    (∃ x, (binAs .branch f).selection = some x ∧ x.rack = rackOf 1 ∧ levelPermits (binAs .branch f) x.owner 1) ∧
      ¬ levelPermits { binAs .branch f with levels := base.levels } .branch 1 ∧ base.selection = none :=
  ⟨⟨choice .branch .active, rfl, by decide, .inl rfl⟩, fun h => h.elim (fun e => by cases e) (fun e => by cases e.1),
    rfl⟩

theorem witness_latchesConfirm :
    (∀ p, ((binAs p (fun b => { b with op := .releasing 9 })).bin 1).op = .releasing 9) ∧
      (binAs .branch (fun b => { b with op := .releasing 9 })).selection = some (choice .branch .active) ∧
      (choice .branch .active).rack = rackOf 1 ∧
      (choice .branch .active).phase = .active ∧
      (({ base with selection := some (choice .branch .releasing) } : State).modBin 1
        (fun b => { b with op := .releasing 9 })).selection = some (choice .branch .releasing) ∧
      ((binAs .branch (fun b => { b with latch := .unsecured, op := .engaging 9 false })).bin 1).op = .engaging 9 false ∧
      (base.bin 1).op.releasingSince = none ∧ (base.bin 1).op.engagingSince = none := by
  refine ⟨?_, by decide, by decide, by decide, by decide, by decide, by decide, by decide⟩
  intro p; cases p <;> decide

theorem witness_FailedLatchIsFault :
    ((binAs .branch (fun b => { b with op := .releasing 199000 })).bin 1).op = .releasing 199000 ∧
      ((binAs .branch (fun b => { b with latch := .unsecured, op := .engaging 199000 false })).bin 1).op =
        .engaging 199000 false ∧
      199000 + 1000 ≤ (binAs .branch id).now := by decide

/-- Rack 0 RELEASING, its last bin engaging, and a sweep step or an INVENTORY pass waiting for the bus. -/
def lastEngaging (step : StepState) (power : PowerState) : State :=
  { (picked .branch .releasing).modBin 1 (fun b => { b with latch := .unlatched, op := .engaging 199000 false }) with
    sweep := { base.sweep with pointer := 3, step := step }, power := { base.power with state := power } }

/-- The rack is quiet after the last engage, whichever way it ends, and was not before; the selection of a rack where
another bin still engages goes on. -/
theorem witness_selectionEndsWhenQuiet :
    (lastEngaging .waiting (.mains .run)).selection = some (choice .branch .releasing) ∧
      ((lastEngaging .waiting (.mains .run)).bin 1).op = .engaging 199000 false ∧
      199000 + 1000 ≤ (lastEngaging .waiting (.mains .run)).now ∧
      (lastEngaging .waiting (.mains .run)).rackQuiet 0 = false ∧
      shows (exec (.latchEngaged 1) (lastEngaging .timing (.mains .run))) (fun t => t.selection == none) = true ∧
      shows (exec (.engageTimeout 1) (lastEngaging .timing (.mains .run))) (fun t => t.selection == none) = true ∧
      shows (exec (.doorChange 1 .opened) (lastEngaging .timing (.mains .run))) (fun t => t.selection == none) = true ∧
      shows (exec (.latchEngaged 1) ((lastEngaging .timing (.mains .run)).modBin 2 (fun b =>
        { b with op := .releasing 9 }))) (fun t => t.selection == some (choice .branch .releasing)) = true := by decide

/-- A WAITING step, and before it a waiting INVENTORY pass, gets the bus that the end of the selection frees. -/
theorem witness_busPasses :
    (lastEngaging .waiting (.mains .run)).sweep.read = none ∧
      (lastEngaging .waiting (.mains .run)).sweep.step = .waiting ∧
      (lastEngaging .timing (.mains (.inventory 2 false))).power.state = .mains (.inventory 2 false) ∧
      shows (exec (.latchEngaged 1) (lastEngaging .waiting (.mains .run)))
        (fun t => t.sweep.step == .reading && (t.sweep.read.map (fun r => r.rack)) == some 3) = true ∧
      shows (exec (.latchEngaged 1) (lastEngaging .timing (.mains (.inventory 2 false))))
        (fun t => t.power.state == .mains (.inventory 2 true) && (t.sweep.read.map (fun r => r.rack)) == some 2) =
        true := by decide

/-- A step's read in progress beside the selection. -/
def readingBeside : State :=
  { lastEngaging .reading (.mains .run) with
    sweep := { base.sweep with
      step := .reading
      read := some { rack := 3, asker := .step, start := base.reading, startCount := 0 } } }

/-- A step's read beside the selection, and nothing that waits for the bus. -/
theorem witness_busPasses_taken :
    (∃ r, readingBeside.sweep.read = some r ∧ r.asker ≠ .branch) ∧
      (lastEngaging .timing (.mains .run)).power.state = .mains .run ∧
      (lastEngaging .timing (.mains .run)).sweep.step ≠ .waiting :=
  ⟨⟨_, rfl, by decide⟩, by decide, by decide⟩

/-- A latch command that has not run its second, beside DoorsAndLatches. -/
theorem witness_latchesConfirm_early :
    ((binAs .branch (fun b => { b with op := .releasing 199001 })).bin 1).op = .releasing 199001 ∧
      ((binAs .branch (fun b => { b with latch := .unsecured, op := .engaging 199001 false })).bin 1).op =
        .engaging 199001 false ∧
      (binAs .branch id).now < 199001 + 1000 := by decide

/-- A state whose bins are LATCHED with doors CLOSED, or stand UNLATCHED at rest, is door-sound. -/
theorem doorsSound_of {s : State}
    (h : ∀ i, (s.bin i).op = .idle ∧ ((s.bin i).latch = .latched → (s.bin i).door = .closed)) : s.doorsSound := by
  intro i
  have hi := h i
  refine ⟨fun hl _ => hi.2 hl, ?_, fun n hn => absurd hn (no_wait (.inr hi.1) n), ?_⟩ <;>
    · rw [hi.1]; intro hc; exact absurd hc (by decide)

theorem witness_DoorsStaySound : (standing .branch).doorsSound := doorsSound_of (by decide)

theorem witness_BinsOpenOnlyUnderSelection :
    (standing .branch).levels.sound ∧ (standing .branch).doorsSound ∧ (standing .branch).accessSound ∧
      ∃ t, step { standing .branch with pending := [.raiseDuress .security] } = .next t := by
  have idle : ∀ i, ((standing .branch).bin i).op = .idle := by decide
  refine ⟨atLevel_sound .opened, witness_DoorsStaySound, ⟨fun i hl _ => ⟨choice .branch .active, rfl, ?_⟩,
    fun i n hn => absurd hn (no_wait (.inr (idle i)) n), fun h => absurd h (by decide)⟩, _, rfl⟩
  · revert hl; revert i; decide

/-! ### Rack reads, bin checks and the sweep -/

theorem witness_rackInventoryBeginsRead :
    8 ≤ (8 : BitVec 8).toNat ∧ base.canTake .branch = true ∧ base.selection = none ∧
      (choice .branch .active).rack ≠ 7 ∧ (choice .branch .releasing).phase = .releasing ∧
      ((standing .branch).selection = some (choice .branch .active) ∧
        ((standing .branch).bin (binAt 0 1)).latch = .unlatched) ∧
      (reading 7 .step).sweep.read.isSome = true ∧
      ((picked .branch .active).sweep.read = none ∧
        ∀ slot, ((picked .branch .active).bin (binAt 0 slot)).latch ≠ .unlatched ∧
          ((picked .branch .active).bin (binAt 0 slot)).op.inProgress = false) := by decide

/-- A strays list of five: part 2 does not exist, part 1 has one entry. -/
theorem witness_straysReadAndCleared :
    base.canTake .branch = true ∧ ((straysOf (List.range 5)).entries.length ≤ 4 * 2 ∧ (2 : Nat) ≠ 0) ∧
      4 * 1 < (straysOf (List.range 5)).entries.length ∧ (0 : BitVec 8).toNat = 0 ∧ 16 < (17 : BitVec 8).toNat ∧
      1 ≤ (1 : BitVec 8).toNat ∧ (16 : BitVec 8).toNat ≤ 16 := by decide

/-- A pocket read of bin 0/00 that ends at a count. -/
def pocket (finish : Nat) : State := base.modBin 0 (fun b => { b with pocketReads := [finish] })

theorem witness_PocketReadChecksBin :
    (pocket 200000).cabinetSound ∧ ((pocket 200000).bin 0).pocketReads.head? = some 200000 ∧
      200000 ≤ (pocket 200000).now ∧ (pocket 200001).now < 200001 := by decide

/-- The records that a bin check tells apart: in its bin seen or not, elsewhere seen, TAKEN seen, and RESERVED. -/
theorem witness_binChecked :
    (bag ∈ base.register.records ∧ bag.bin = some 0 ∧ bag.state = .held ∧ bag.tag ∈ [1234567890] ∧ bag.tag ∉ [7]) ∧
      bag.bin ≠ some 1 ∧ ({ bag with state := .taken, bin := none } : BagRecord).state = .taken ∧
      reservedBag.state = .reserved ∧
      (withBag { bag with state := .listed } (pocket 200000)).cabinetSound ∧
      (manifestIn .sealed [1]).entries.Nodup ∧ (manifestIn .sealed [1]).state = .sealed := by decide

/-- A LISTED record that is not seen leaves a SEALED manifest empty; the withdrawn count is held at 65,535 (R180). -/
theorem test_listed_record_withdrawn :
    shows (exec (.pocketReadComplete 0 []) { withBag { bag with state := .listed } (pocket 200000) with
        manifest := { manifestIn .sealed [1] with withdrawn := 65535 } })
      (fun t => t.manifest == { manifestIn .building [] with withdrawn := 65535 } &&
        (t.findTag bag.tag).map (fun r => r.state) == some .missing) = true := by decide

/-- Two places free, one ASTRAY record and two HELD in another bin (R138): the ASTRAY one and the HELD one of lower
serial are relocated, and the third is seen there. -/
def twoPlaces : State :=
  let held (tag : Tag) (i : BinIdx) : BagRecord := { bag with tag := tag, receipt := some tag, bin := some i }
  let s : State := { pocket 200000 with register := { nextReceipt := 100, records :=
    [held 1 0, held 2 0, held 5 1, held 3 1, { bag with tag := 9, receipt := some 9, state := .astray, bin := none }] } }
  (s.modBin 0 (fun b => { b with contents := [1, 2], massSum := 1400 })).modBin 1 (fun b =>
    { b with contents := [5, 3], massSum := 1400 })

theorem test_last_places_of_a_check :
    twoPlaces.cabinetSound ∧
      shows (exec (.pocketReadComplete 0 [5, 2, 9, 1, 3]) twoPlaces) (fun t =>
        (t.bin 0).contents == [1, 2, 9, 3] && (t.bin 1).contents == [5] &&
          (t.findTag 5).map (fun r => (r.bin, r.seenAt)) == some (some 1, some 0)) = true := by decide

/-- Two tags of no live record, one already on the list and one new, in any list with and without a place. -/
theorem test_strays_of_a_check :
    shows (exec (.pocketReadComplete 0 [7, 1234567890, 3]) { pocket 200000 with strays := straysOf [7] })
        (fun t => t.strays.entries.map (fun e => (e.tag, e.latest.time.second)) == [(7, 43200), (3, 43200)] &&
          !t.strays.incomplete) = true ∧
      shows (exec (.pocketReadComplete 0 [1234567890, 100]) { pocket 200000 with strays := straysOf (List.range 16) })
        (fun t => t.strays == { straysOf (List.range 16) with incomplete := true }) = true := by decide

/-- The first bin of a rack read is checked in the state the read found. -/
theorem witness_RackReadCompletes_check : ((List.finRange 16).take (0 : Fin 16).val).foldl
    (fun x slot => x.binCheck (binAt 0 slot) []) (reading 0 .step) = reading 0 .step ∧ (reading 0 .step).cabinetSound :=
  ⟨rfl, by decide⟩

theorem witness_RackReadCompletes :
    (∀ asker, (reading 0 asker).sweep.read.map (fun r => r.asker) = some asker) ∧
      (reading 0 .step).sweep.read.map (fun r => decide (r.startCount + 2000 ≤ (reading 0 .step).now)) = some true ∧
      ((reading 0 .step).sweep.pendingStep = false ∧ (reading 0 .step).inInventory = false) ∧
      (∀ rack, ({ reading rack .inventory with
        power := { base.power with state := .mains (.inventory rack true) } } : State).power.state =
          .mains (.inventory rack true)) ∧
      base.selection = none ∧ (picked .branch .active).selection.isSome = true := by
  refine ⟨?_, by decide, by decide, fun _ => rfl, by decide, by decide⟩
  intro a; cases a <;> rfl

theorem witness_stepTimerExpires :
    ({ base with sweep := { base.sweep with stepTimer := some 200000 } } : State).sweep.stepTimer = some 200000 ∧
      200000 ≤ base.now ∧ base.now < 200001 ∧ (reading 0 .step).sweep.step ≠ .timing ∧ base.sweep.step = .timing ∧
      (picked .branch .active).selectedRack = some (picked .branch .active).sweep.pointer ∧
      (base.selectedRack ≠ some base.sweep.pointer ∧ base.grant = .nothing) ∧ (reading 7 .inventory).grant ≠ .nothing := by
  decide

/-- Rack 3 at the threshold and just above it. -/
def aged (ms : Nat) : State := { base with sweep := { base.sweep with ages := base.sweep.ages.set 3 ms } }

theorem witness_rackBecomesOverdue :
    retained.inRetention = true ∧ (aged 1800000).sweep.ages.get 3 ≤ (aged 1800000).config.verificationInterval * 60000 ∧
      ((aged 1800001).inRetention = false ∧ (aged 1800001).sweep.overdue.get 3 = false ∧
        (aged 1800001).config.verificationInterval * 60000 < (aged 1800001).sweep.ages.get 3) := by decide

/-! ### Records -/

theorem witness_RecordReadsReport :
    base.canTake .branch = true ∧ (tagOf 0x1234567890 = some 1234567890 ∧ base.findTag 1234567890 = some bag) ∧
      (tagOf 0x9999999999 = some 9999999999 ∧ base.findTag 9999999999 = none) ∧ tagOf 0xA000000000 = none ∧
      (1 ≤ (999999 : BitVec 24).toNat ∧ (999999 : BitVec 24).toNat ≤ 999999 ∧ base.findReceipt 999999 = none) ∧
      base.findReceipt 1 = some bag ∧ (bag.bin = some 0 ∧ bag.tag ∈ (base.bin 0).contents) ∧
      (0 : BitVec 24).toNat = 0 ∧ 999999 < (1000000 : BitVec 24).toNat ∧ 128 ≤ (128 : BitVec 8).toNat ∧
      (127 : BitVec 8).toNat = (127 : BinIdx).val ∧ 2 ≤ (2 : BitVec 8).toNat := by decide

/-- INSPECT with a bag in a state, its bin with a latch state. -/
def desk (r : BagRecord) (latch : LatchState) : State :=
  (withBag r (atLevel .inspect)).modBin 0 (fun b => { b with latch := latch })

theorem witness_takeBagTakes :
    (desk bag .unlatched).canTake .branch = true ∧ tagOf 0xF000000000 = none ∧
      (tagOf 0x1234567890 = some bag.tag ∧ (desk bag .unlatched).findTag bag.tag = some bag) ∧
      (withBag bag base).levels.effective = .sealed ∧ (withBag bag (atLevel .courier)).levels.effective = .courier ∧
      ((desk bag .unlatched).levels.effective = .inspect ∧ bag.state = .held ∧ bag.bin = some 0) ∧
      ((desk bag .latched).bin 0).latch = .latched ∧ ((desk bag .unlatched).bin 0).latch = .unlatched ∧
      (desk { bag with state := .released, bin := none } .latched).findTag bag.tag =
        some { bag with state := .released, bin := none } ∧
      (desk { bag with state := .listed } .latched).findTag bag.tag = some { bag with state := .listed } ∧
      bag.receipt = some 1 := by decide

/-- The branch holds rack 0 with a TAKEN bag on the desk; bin 0/01 as given. -/
def atDesk (f : Bin → Bin) : State :=
  (withBag { bag with state := .taken, bin := none } (picked .branch .active)).modBin 1 f

theorem witness_putBackReturns :
    ((atDesk id).canTake .branch = true ∧ tagOf 0x1234567890 = some bag.tag ∧
      (atDesk id).findTag bag.tag = some { bag with state := .taken, bin := none }) ∧
      tagOf 0x000000000A = none ∧ base.findTag 1 = none ∧ 128 ≤ (128 : BitVec 8).toNat ∧
      (1 : BitVec 8).toNat = (1 : BinIdx).val ∧ bag.state ≠ .taken ∧ ((atDesk id).bin 1).latch ≠ .unlatched ∧
      (choice .branch .active).rack ≠ rackOf 16 ∧
      ((atDesk (fun b => { b with latch := .unlatched, op := .engaging 0 true })).bin 1).op.isEngaging = true ∧
      4 ≤ ((atDesk (fun b => { b with latch := .unlatched, contents := [1, 2, 3, 4] })).bin 1).contents.length ∧
      (((atDesk (fun b => { b with latch := .unlatched, contents := [1, 2, 3] })).bin 1).latch = .unlatched ∧
        ((atDesk (fun b => { b with latch := .unlatched, contents := [1, 2, 3] })).bin 1).op.isEngaging = false ∧
        ((atDesk (fun b => { b with latch := .unlatched, contents := [1, 2, 3] })).bin 1).contents.length < 4) ∧
      (atDesk id).selection = some (choice .branch .active) ∧ (choice .branch .active).owner = .branch ∧
      (choice .branch .active).rack = rackOf 1 := by decide

def takenBag : BagRecord := { bag with state := .taken, bin := none }

theorem witness_postResultMovesTrust :
    base.canTake .branch = true ∧ 9999999 < (10000000 : BitVec 32).toNat ∧ (9999999 : BitVec 32).toNat ≤ 9999999 ∧
      999999 < (1000000 : BitVec 24).toNat ∧ base.findReceipt 999999 = none ∧
      (base.findReceipt 1 = some bag ∧ bag.state ≠ .taken ∧ bag.state ≠ .released) ∧
      ((withBag takenBag base).findReceipt 1 = some takenBag ∧ takenBag.state = .taken ∧
        (withBag takenBag base).dep takenBag.depositor = some holder) ∧ base.dep 255 = none := by decide

def countedBag : BagRecord := { takenBag with state := .counted, result := some 12510 }

theorem witness_retireFreesRecord :
    base.canTake .branch = true ∧ 999999 < (1000000 : BitVec 24).toNat ∧ base.findReceipt 2 = none ∧
      (bag.state ≠ .counted ∧ bag.state ≠ .released) ∧
      ((withBag countedBag base).findReceipt 1 = some countedBag ∧ countedBag.state = .counted) ∧
      (withBag countedBag base).register.sound ∧ (withBag countedBag base).register.fieldsSound := by decide

/-- A listing filter for HELD and MISSING. -/
def heldOrMissing : ListFilter :=
  { states := 0x0C, flags := none, holdClass := none, depositor := none, result := none }

def cursorAt (next : Nat) : Cursor :=
  { filter := heldOrMissing, order := .wrap, burst := 4, start := 999990, next := next, idleEnd := 200000 }

theorem witness_listingsBurst :
    (base.canTake .branch = true ∧ 1 ≤ base.config.burstLength ∧ base.register.fieldsSound) ∧
      base.branch.cursor = none ∧ (base.setCursor (some (cursorAt 8))).branch.cursor = some (cursorAt 8) ∧
      (0 : BitVec 24).toNat = 0 ∧ 999999 < (1000000 : BitVec 24).toNat ∧ (0x01 : BitVec 16).getLsbD 0 = true ∧
      512 ≤ (512 : BitVec 16).toNat ∧ 8 ≤ (8 : BitVec 8).toNat ∧
      (heldOrMissing.states ≠ 0 ∧ heldOrMissing.states.getLsbD 0 = false ∧ heldOrMissing.states.toNat < 512 ∧
        heldOrMissing.flags = none) ∧
      (1 ≤ (cursorAt 8).start ∧ (cursorAt 8).start ≤ 999999 ∧ 1 ≤ (cursorAt 8).next ∧ (cursorAt 8).next ≤ 999999 ∧
        1 ≤ (cursorAt 8).burst) := by decide

/-- Receipt numbers of one burst in the wrapped listing of chapter 9, on both sides of the circle's end. -/
theorem witness_burstOf :
    ∃ r ∈ wrapped.register.records, filterAccepts heldOrMissing r = true ∧ r.receipt = some 3 := by
  refine ⟨{ bag with receipt := some 3, tag := 3 }, by decide, by decide, rfl⟩

theorem witness_idleListingCloses :
    (base.setCursor (some (cursorAt 8))).branch.cursor = some (cursorAt 8) ∧ (cursorAt 8).idleEnd ≤ base.now ∧
      base.now < ({ cursorAt 8 with idleEnd := 200001 } : Cursor).idleEnd := by decide

theorem witness_StepKeepsCabinetSound : base.cabinetSound ∧ ∃ t, step base = .next t := ⟨by decide, _, rfl⟩

theorem witness_StepKeepsReceiptsUnique :
    base.register.sound ∧ base.register.fieldsSound ∧ ∃ t, step base = .next t := ⟨by decide, by decide, _, rfl⟩

/-! ### The manifest -/

/-- A manifest state with the bag on it, LISTED, or off it. -/
def listing (x : ManifestState) : State :=
  { withBag { bag with state := .listed } base with manifest := manifestIn x [1] }

def collecting (x : ManifestState) : State := { base with manifest := manifestIn x [] }

theorem witness_OpenAndSealManifest :
    cardOf 0x44445555666A = none ∧ cardOf 0x444455556666 = some 444455556666 ∧
      (∀ s ∈ [listing .building, listing .sealed, listing .active, collecting .empty, collecting .closed],
        s.canTake .branch = true) ∧
      (listing .sealed).manifest.state = .sealed ∧ (listing .active).manifest.state = .active ∧
      (collecting .empty).manifest.state = .empty ∧ (collecting .closed).manifest.state = .closed ∧
      (collecting .building).manifest.entries = [] ∧
      ((listing .building).manifest.state = .building ∧ (listing .building).manifest.entries ≠ []) := by decide

theorem witness_addLists :
    (listing .building).canTake .branch = true ∧ 999999 < (1000000 : BitVec 24).toNat ∧
      (1 ≤ (999999 : BitVec 24).toNat ∧ (999999 : BitVec 24).toNat ≤ 999999) ∧
      ((collecting .active).manifest.state ≠ .building ∧ (collecting .active).manifest.state ≠ .sealed) ∧
      (collecting .building).findReceipt 999999 = none ∧
      (listing .building).findReceipt 1 = some { bag with state := .listed } ∧
      (withBag takenBag (collecting .sealed)).findReceipt 1 = some takenBag ∧
      ((collecting .building).findReceipt 1 = some bag ∧ bag.state = .held ∧
        (collecting .building).manifest.entries.length < 64) ∧
      64 ≤ (manifestIn .building (List.range 64)).entries.length := by decide

theorem witness_removeAndCancelDelist :
    (listing .sealed).canTake .branch = true ∧ (0 : BitVec 24).toNat = 0 ∧
      (collecting .closed).manifest.state ≠ .building ∧ (collecting .closed).manifest.state ≠ .sealed ∧
      (collecting .sealed).findReceipt 2 = none ∧ (collecting .sealed).findReceipt 1 = some bag ∧
      ((listing .sealed).findReceipt 1 = some { bag with state := .listed } ∧
        (listing .sealed).manifest.entries.erase 1 = []) ∧
      (listing .active).manifest.state = .active ∧ (listing .sealed).manifest.state ≠ .active := by decide

theorem witness_loginActivates :
    (listing .sealed).canTake .courier = true ∧ cardOf 0xA00000000000 = none ∧
      cardOf 0x444455556666 = some 444455556666 ∧ (listing .building).manifest.state ≠ .sealed ∧
      ((listing .sealed).manifest.state = .sealed ∧ (listing .sealed).manifest.card = some 444455556666) ∧
      (listing .sealed).manifest.card ≠ some 0 ∧ (atLevel .sealed).levels.sound :=
  ⟨by decide, by decide, by decide, by decide, by decide, by decide, atLevel_sound _⟩

theorem witness_scanReleases :
    (listing .active).canTake .courier = true ∧ (listing .sealed).loggedIn = false ∧
      (listing .active).loggedIn = true ∧ tagOf 0x000000000F = none ∧ tagOf 0x1234567890 = some bag.tag ∧
      (listing .active).findTag 5 = none ∧
      (withBag takenBag (collecting .active)).findTag bag.tag = some takenBag ∧
      (collecting .active).findTag bag.tag = some bag ∧
      ((listing .active).findTag bag.tag = some { bag with state := .listed } ∧ bag.receipt = some 1) := by decide

theorem witness_ManifestClosing :
    ((listing .sealed).canTake .branch = true ∧ (listing .sealed).loggedIn = false) ∧
      ((listing .active).canTake .courier = true ∧ (listing .active).loggedIn = true ∧
        (listing .active).levels.effective ≠ .opened) ∧
      (crewAt.selection = some (choice .courier .active) ∧ (choice .courier .active).owner = .courier ∧
        (choice .courier .active).phase = .active ∧ rackOf 15 = (choice .courier .active).rack) ∧
      crewAt.canTake .branch = true ∧ crewAt.loggedIn = true := by decide

/-- Nine entries make two parts: part 1 has one of them and part 2 does not exist. -/
theorem witness_readManifestReports :
    (listing .active).canTake .courier = true ∧ (listing .sealed).loggedIn = false ∧ (listing .active).loggedIn = true ∧
      ((2 : Nat) ≠ 0 ∧ (manifestIn .sealed (List.range 9)).entries.length ≤ 8 * 2) ∧
      8 * 1 < (manifestIn .sealed (List.range 9)).entries.length := by decide

theorem witness_StepKeepsManifestSound :
    (listing .sealed).register.sound ∧ (listing .sealed).register.fieldsSound ∧ (listing .sealed).manifestSound ∧
      ∃ t, step { listing .sealed with pending := [.cancel .branch] } = .next t := by
  refine ⟨by decide, by decide, ⟨by decide, by decide, by decide, ?_, by decide⟩, _, rfl⟩
  intro r hr _
  obtain rfl : r = { bag with state := .listed } := by simpa [listing, withBag, State.modBin] using hr
  exact ⟨1, by decide, by decide⟩

/-! ### Depositors, settings -/

/-- An entry without live records. -/
def second : Depositor :=
  { holder with card := 999999999999, windowStart := none, windowCount := 0, liveCount := 0, state := .suspended }

/-- Two entries. -/
def table : State := { base with depositors := base.depositors.set 1 (some second) }

theorem base_dep (i : DepIdx) : base.dep i = if 0 = i then some holder else none := by
  simp [base, State.dep, Table.get_set]

theorem table_dep (i : DepIdx) : table.dep i = if 1 = i then some second else base.dep i := by
  simp [table, State.dep, Table.get_set]

/-- What holds of the one entry holds of every entry. -/
theorem base_entries {q : DepIdx → Depositor → Prop} (h : q 0 holder) : ∀ i, ∀ d ∈ base.dep i, q i d := by
  intro i d hd
  rw [base_dep] at hd
  by_cases e : (0 : DepIdx) = i
  · rw [if_pos e] at hd; cases hd; exact e ▸ h
  · rw [if_neg e] at hd; cases hd

/-- What holds of the two entries holds of every entry. -/
theorem table_entries {q : DepIdx → Depositor → Prop} (h : q 0 holder) (h2 : q 1 second) :
    ∀ i, ∀ d ∈ table.dep i, q i d := by
  intro i d hd
  rw [table_dep] at hd
  by_cases e : (1 : DepIdx) = i
  · rw [if_pos e] at hd; cases hd; exact e ▸ h2
  · rw [if_neg e] at hd; exact base_entries h i d hd

def noTerms : DepositorTerms := { levels := none, perBag := none, drops := none }

/-- Every entry in use. -/
def fullTable : State := { base with depositors := Table.ofFn (fun i => some { holder with card := i.val }) }

theorem witness_enrolFillsLowest :
    table.canTake .branch = true ∧ cardOf 0xF00000000000 = none ∧ cardOf 0x111122223333 = some 111122223333 ∧
      cardOf 0x777700000000 = some 777700000000 ∧ (0 : BitVec 8).toNat = 0 ∧ 7 < (8 : BitVec 8).toNat ∧
      (99 : BitVec 32).toNat < 100 ∧ 3050000 < (3050001 : BitVec 32).toNat ∧ 15 < (16 : BitVec 8).toNat ∧
      termsOk { levels := some 7, perBag := some 3050000, drops := some 15 } = true ∧
      termsOk { levels := some 1, perBag := some 100, drops := some 1 } = true ∧
      table.dep 0 = some holder ∧ (∀ i, ∀ d ∈ table.dep i, d.card ≠ 777700000000) ∧ table.dep 2 = none ∧
      (∀ j : DepIdx, j < 2 → table.dep j ≠ none) ∧
      (∀ i, fullTable.dep i ≠ none) ∧ (∀ i, ∀ d ∈ fullTable.dep i, d.card ≠ 777700000000) := by
  refine ⟨by decide, by decide, by decide, by decide, by decide, by decide, by decide, by decide, by decide, by decide,
    by decide, by decide, table_entries (by decide) (by decide), by decide, by decide, ?_, ?_⟩
  · intro i; simp [fullTable, State.dep]
  · intro i d hd
    obtain rfl : d = { holder with card := i.val } := by simpa [fullTable, State.dep, eq_comm] using hd
    have := i.isLt
    show i.val ≠ 777700000000
    omega

theorem witness_editWritesParts :
    table.canTake .branch = true ∧ table.dep (depOf 255) = none ∧ table.dep (depOf 0) = some holder ∧
      termsOk { levels := none, perBag := none, drops := some 16 } = false ∧ termsOk noTerms = true ∧
      noTerms = { levels := none, perBag := none, drops := none } ∧
      ({ levels := none, perBag := none, drops := some 1 } : DepositorTerms) ≠ noTerms ∧
      (cardOf 0x999999999999 = some 999999999999 ∧ (1 : DepIdx) ≠ depOf 0 ∧
        (∃ e ∈ table.dep 1, e.card = 999999999999)) ∧
      (cardOf 0x777700000000 = some 777700000000 ∧
        ∀ j, j ≠ depOf 0 → ∀ e ∈ table.dep j, e.card ≠ 777700000000) := by
  refine ⟨by decide, by decide, by decide, by decide, by decide, by decide, by decide, by decide, by decide,
    fun j _ => ?_⟩
  exact table_entries (q := fun _ e => e.card ≠ 777700000000) (by decide) (by decide) j

theorem witness_depositorStatesChange :
    table.canTake .branch = true ∧ table.dep (depOf 255) = none ∧
      ((table.dep (depOf 0)).map (fun d => (d.state, d.liveCount)) = some (.active, 1)) ∧
      ((table.dep (depOf 1)).map (fun d => (d.state, d.liveCount)) = some (.suspended, 0)) := by decide

/-- No two entries of the base state's table share a card. -/
theorem base_cardsUnique : base.cardsUnique := by
  intro i j d hd e he _
  have hi : i = 0 := base_entries (q := fun i _ => i = 0) rfl i d hd
  have hj : j = 0 := base_entries (q := fun i _ => i = 0) rfl j e he
  rw [hi, hj]

theorem witness_readDepositorReports :
    base.canTake .branch = true ∧ base.dep (depOf 255) = none ∧
      (∀ i, ∀ d ∈ base.dep i, some d.card ≠ cardOf 0x000000000000) ∧ base.cardsUnique ∧ base.dep 0 = some holder ∧
      depOf 0 = 0 ∧ cardOf 0x111122223333 = some holder.card ∧ holder.windowStart = some { day := 1, second := 43000 } ∧
      (table.dep 1).any (fun d => d.windowStart.isNone) = true :=
  ⟨by decide, by decide, base_entries (by decide), base_cardsUnique, by decide, by decide, by decide, by decide,
    by decide⟩

theorem witness_stepKeepsDepositorsSound : base.depositorsSound ∧ base.cardsUnique ∧ ∃ t, step base = .next t :=
  ⟨base_entries (by decide), base_cardsUnique, _, rfl⟩

theorem witness_stepKeepsLiveCounts : base.register.sound ∧ base.liveCountsSound ∧ ∃ t, step base = .next t := by
  refine ⟨by decide, fun i => ?_, _, rfl⟩
  rw [base_dep]
  by_cases e : (0 : DepIdx) = i
  · subst e; decide
  · have h : ¬ bag.depositor = i := e
    simp [e, base, h]

/-- Two writes of field 17, the last unsupported, and one of field 1. -/
def someWrites : List ConfigWrite := [.weekOffset 6, .verificationInterval 10, .weekOffset 7]

theorem witness_setConfigWrites :
    (atLevel .opened).canTake .branch = true ∧ someWrites ≠ [] ∧ base.levels.effective ≠ .opened ∧
      (atLevel .opened).levels.effective = .opened ∧
      someWrites = [.weekOffset 6] ++ .verificationInterval 10 :: [.weekOffset 7] ∧
      (∀ x ∈ [ConfigWrite.weekOffset 7], fieldNumber x ≠ fieldNumber (.verificationInterval 10)) ∧
      (∀ w ∈ someWrites, fieldNumber w ≠ fieldNumber (.margin 50)) ∧ writeSupported (.weekOffset 7) = false ∧
      (96 : BinIdx).val / 16 = 6 := by decide

/-- The last write of each field counts: the week offset gets its default and the interval its carried value (R204). -/
theorem test_setConfig_last_write :
    shows (exec (.setConfig .branch someWrites) (atLevel .opened))
      (fun t => t.config.weekOffset == 0 && t.config.verificationInterval == 10 &&
        answerOn .branch t == some (.ok (.configSet [17]))) = true := by decide

theorem witness_setClockMovesReading :
    86399 < (86400 : BitVec 24).toNat ∧ (86399 : BitVec 24).toNat ≤ 86399 ∧
      (base.canTake .branch = true ∧ base.clock.isSet = true ∧ base.levels.effective ≠ .opened) ∧
      ({ base with clock := unsetClock } : State).clock.isSet = false ∧
      (atLevel .opened).levels.effective = .opened ∧ base.inInventory = false := by decide

theorem witness_StepKeepsSettingsSound : (∃ t, step base = .next t) ∧ defaultConfig.sound ∧ base.clock.sound ∧
    base.windowsSound ∧ base.strays.sound ∧ ∀ x, (base.lane x).sound := by
  refine ⟨⟨_, rfl⟩, witness_acceptance.1, by decide, ?_, by decide, ?_⟩
  · intro i w hw; simp [base, State.reset] at hw
  · intro x; cases x <;> decide

/-- Lanes in SERVICE, JAMMED and CLOSED whose sets give those states, and one JAMMED whose set holds SERVICE too. -/
theorem witness_StepKeepsSettingsSound_closed :
    ((inService none).lane .a).sound ∧ ((shut forcedOnly false base).lane .a).sound ∧
      ((laneIn .jammed (shut { noReasons with jammed := true } false base)).lane .a).sound ∧
      ¬ ((laneIn .jammed (shut { noReasons with jammed := true, service := true } false base)).lane .a).sound := by decide

/-! ### The lanes' own events -/

/-- A session at a stage, with what has been keyed and how often it was refused. -/
def sessionAt (stage : DeclStage) (keyed : List (Fin 10)) (refused : Nat) : Session :=
  { card := some 111122223333, depositor := 0, stage := stage, notes := some 12000, silver := some 500, bronze := none,
    keyed := keyed, refused := refused, keyTimer := some 200000, tag := none, capture := none, verdict := none,
    record := none }

def declaring (y : Session) : State := laneWith (fun z => { z with state := .declare, session := some y }) base

/-- The holder's entry with other values. -/
def withHolder (f : Depositor → Depositor) : State := { base with depositors := base.depositors.set 0 (some (f holder)) }

theorem witness_cardReadTests :
    base.inRetention = false ∧ (base.lane .a).state = .idle ∧ ((laneIn .card base).lane .a).state ≠ .idle ∧
      (∀ i, ∀ d ∈ base.dep i, d.card ≠ 0) ∧ base.cardsUnique ∧ base.dep 0 = some holder ∧
      (holder.state = .active ∧ holder.levels.has base.levels.effective = true) ∧
      ({ holder with state := .suspended } : Depositor).state = .suspended ∧
      holder.levels.has (atLevel .opened).levels.effective = false ∧
      (∃ w ∈ holder.windowStart, w.seconds ≤ base.reading.seconds ∧
        base.reading.seconds < w.seconds + base.config.rateWindow * 60) ∧
      ({ day := 1, second := 39600 } : Moment).seconds + base.config.rateWindow * 60 ≤ base.reading.seconds ∧
      base.reading.seconds < ({ day := 1, second := 43201 } : Moment).seconds ∧
      holder.windowCount < holder.dropLimit ∧
      ({ holder with windowCount := 6 } : Depositor).dropLimit ≤ ({ holder with windowCount := 6 } : Depositor).windowCount ∧
      24 ≤ ({ holder with liveCount := 24 } : Depositor).liveCount ∧ holder.liveCount < 24 ∧
      base.register.records.length < 512 ∧ 512 ≤ (List.replicate 512 bag).length :=
  ⟨by decide, by decide, by decide, base_entries (by decide), base_cardsUnique, by decide, by decide, by decide, by decide,
    ⟨{ day := 1, second := 43000 }, by decide, by decide, by decide⟩, by decide, by decide, by decide, by decide,
    by decide, by decide, by decide, by decide⟩

/-- A closed lane that shows a receipt number to a count. -/
def shutShowing (n : Nat) : State :=
  laneWith (fun y => { y with display := .receiptNumber 5 n }) (shut forcedOnly false base)

/-- A closed lane that shows no receipt number, one it shows still, and one whose 30 s are over. -/
theorem witness_closedLaneShows :
    ((shut forcedOnly false base).lane .a).isClosed = true ∧
      (∀ k n, ((shut forcedOnly false base).lane .a).display ≠ .receiptNumber k n) ∧
      (∀ n, ((shutShowing n).lane .a).isClosed = true ∧ ((shutShowing n).lane .a).display = .receiptNumber 5 n) ∧
      base.now < 200001 ∧ 200000 ≤ base.now ∧ base.inRetention = false := by
  refine ⟨by decide, fun k n h => ?_, fun n => ⟨rfl, rfl⟩, by decide, by decide, by decide⟩
  cases h

/-- A card at a closed lane: LANE CLOSED, once the receipt number has been shown (R50, R66). -/
theorem test_card_at_closed_lane :
    shows (exec (.cardRead .a 111122223333) (shutShowing 200000)) (fun t => t.laneA.display == .laneClosed) = true ∧
      shows (exec (.keyPress .a .enter) (shutShowing 200001)) (fun t => t.laneA.display == .receiptNumber 5 200001) =
        true := by decide

/-- The entry of a session that has become VACANT has the limit 0 (R96); at the third refusal the reason is shown. -/
theorem test_third_refusal_shows_reason :
    shows (exec (.keyPress .a .enter)
        { declaring (sessionAt .bronze [] 2) with depositors := Table.const 256 none })
      (fun t => t.laneA.state == .idle && t.laneA.session == none &&
        t.laneA.display == .declarationRefused .overLimit) = true := by decide

theorem witness_keysDeclare :
    (∀ y, ((declaring y).lane .a).state = .declare ∧ (declaring y).inRetention = false ∧
      ((declaring y).lane .a).session = some y) ∧
      (base.lane .a).state ≠ .declare ∧ retained.inRetention = true ∧
      (sessionAt .notes [] 0).stage = .notes ∧ (sessionAt .silver [] 0).stage = .silver ∧
      50000 < keyedNumber [5, 0, 0, 0, 1] ∧ keyedNumber [5, 0, 0, 0, 0] ≤ 50000 ∧
      ((sessionAt .bronze [] 2).stage = .bronze ∧ (sessionAt .bronze [] 2).notes = some 12000 ∧
        (sessionAt .bronze [] 2).silver = some 500) ∧
      (declaring (sessionAt .bronze [] 2)).dep (sessionAt .bronze [] 2).depositor = some holder ∧
      ((none : Option Depositor).map (fun d => d.perBag)).getD 0 < 12000 + 500 + keyedNumber [] ∧
      12000 + 500 + keyedNumber [] ≠ 0 ∧ 12000 + 500 + keyedNumber [] ≤ holder.perBag ∧
      ({ holder with perBag := 12499 } : Depositor).perBag < 12000 + 500 + keyedNumber [] ∧ (1 : Nat) < 2 := by
  refine ⟨fun y => ⟨rfl, rfl, rfl⟩, ?_⟩
  decide

theorem witness_waitsEndAtIdle :
    (((laneWith (fun y => { y with state := .card, phaseTimer := some 200000 }) base).lane .a).state = .card ∧
      ((laneWith (fun y => { y with state := .card, phaseTimer := some 200000 }) base).lane .a).phaseTimer =
        some 200000) ∧
      ((declaring (sessionAt .notes [] 0)).lane .a).session = some (sessionAt .notes [] 0) ∧
      (sessionAt .notes [] 0).keyTimer = some 200000 ∧ 200000 ≤ base.now ∧ base.now < 200001 := by decide

/-- Lane A with inputs, in a state, with a lock pulse that awaits a position. -/
def drawer (st : LaneState) (i : LaneInputs) (goal : Option LockGoal) (timer : Option Nat) : State :=
  laneWith (fun y => { y with state := st, inputs := i, lockGoal := goal, phaseTimer := timer }) base

def inputsOf (closed locked bagIn forced : Bool) : LaneInputs :=
  { drawerClosed := closed, drawerLocked := locked, bagPresent := bagIn, drawerForced := forced }

theorem witness_drawerForcings :
    inputValue (base.lane .a).inputs .drawerClosed = true ∧ base.inRetention = false ∧
      inputValue (base.lane .a).inputs .drawerForced ≠ true ∧
      (inputValue (base.lane .a).inputs .drawerClosed ≠ false ∧ (base.lane .a).inputs.drawerLocked = true) ∧
      (inputValue ((drawer .load (inputsOf false false false false) none none).lane .a).inputs .drawerLocked ≠ true ∧
        ((drawer .load (inputsOf false false false false) none none).lane .a).inputs.drawerClosed = false) ∧
      (withBag reservedBag base).reservedOf .a = some reservedBag ∧ base.reservedOf .a = none ∧
      (base.lane .a).route = none := by decide

theorem witness_drawerChanges :
    base.inRetention = false ∧ ((base.lane .a).state = .idle ∧ (base.lane .a).inputs.bagPresent = false) ∧
      (((drawer .returnWait (inputsOf false false true false) none none).lane .a).state = .returnWait ∧
        ((drawer .returnWait (inputsOf false false true false) none none).lane .a).inputs.bagPresent = true) ∧
      (∀ closed bagIn, ((drawer .load (inputsOf closed false bagIn false) none (some 230000)).lane .a).state = .load ∧
        ((drawer .load (inputsOf closed false bagIn false) none (some 230000)).lane .a).phaseTimer ≠ none ∧
        ((drawer .load (inputsOf closed false bagIn false) none (some 230000)).lane .a).lockGoal = none ∧
        ((drawer .load (inputsOf closed false bagIn false) none (some 230000)).lane .a).inputs.bagPresent = bagIn ∧
        ((drawer .load (inputsOf closed false bagIn false) none (some 230000)).lane .a).inputs.drawerClosed = closed) ∧
      (∀ want, ((drawer .load (inputsOf true (!want) true false) (some { wantLocked := want, confirmBy := none })
          none).lane .a).inputs.drawerLocked = !want) ∧
      ((drawer .ret (inputsOf true true true false) (some { wantLocked := false, confirmBy := none }) none).lane .a).state =
        .ret := by decide

/-- LOAD with the bolt already locked; a drawer that comes to be closed and empty in IDLE and in CLOSED, unlocked. -/
theorem witness_drawerChanges_bolt :
    (((drawer .load (inputsOf true true false false) none (some 230000)).lane .a).inputs.drawerLocked = true ∧
      ((drawer .load (inputsOf true true false false) none (some 230000)).lane .a).inputs.bagPresent = false) ∧
      (inputValue ((drawer .idle (inputsOf false false false false) none none).lane .a).inputs .drawerClosed ≠ true ∧
        ((drawer .idle (inputsOf false false false false) none none).lane .a).state = .idle) ∧
      (inputValue ((drawer .closed (inputsOf true false true false) none none).lane .a).inputs .bagPresent ≠ false ∧
        ((drawer .closed (inputsOf true false true false) none none).lane .a).state = .closed ∧
        ((drawer .closed (inputsOf true false true false) none none).lane .a).reasons.power = false) := by decide

/-- A bag loaded behind a locked bolt needs no pulse, and its tag is read (R56, R61; log entry 38). -/
theorem test_loaded_behind_locked_bolt :
    shows (exec (.laneInputChange .a .bagPresent true) (drawer .load (inputsOf true true false false) none (some 230000)))
      (fun t => t.laneA.lock == (base.lane .a).lock && t.laneA.tagReader == some .load) = true := by decide

theorem witness_lockLoadAndTag :
    (((drawer .load (inputsOf true false true false) (some { wantLocked := true, confirmBy := some 200000 })
        none).lane .a).lockGoal = some { wantLocked := true, confirmBy := some 200000 }) ∧
      200000 ≤ base.now ∧ base.now < 200001 ∧
      (∀ bagIn, ((drawer .load (inputsOf false false bagIn false) none (some 200000)).lane .a).state = .load ∧
        ((drawer .load (inputsOf false false bagIn false) none (some 200000)).lane .a).phaseTimer = some 200000 ∧
        ((drawer .load (inputsOf false false bagIn false) none (some 200000)).lane .a).inputs.bagPresent = bagIn) ∧
      (∀ p, ((laneWith (fun y => { y with tagReader := some p }) base).lane .a).tagReader = some p) ∧
      base.findTag bag.tag = some bag ∧ base.findTag 9999999999 = none := by
  refine ⟨by decide, by decide, by decide, by decide, fun p => rfl, by decide, by decide⟩

/-- Lane A in WEIGH with samples already delivered, newest first. -/
def weighingAt (samples : List Reading) : State :=
  laneWith (fun y => { y with state := .weigh, samples := samples, phaseTimer := some 200000
                              session := some { sessionAt .complete [] 0 with bronze := some 10, tag := some 7 } }) base

theorem witness_weighing :
    (base.lane .a).state ≠ .weigh ∧ ((weighingAt []).lane .a).state = .weigh ∧
      settled (.mass 700 :: ((weighingAt [.mass 703, .mass 700]).lane .a).samples) = none ∧
      ((weighingAt [.mass 702, .mass 700]).lane .a).samples = .mass 702 :: .mass 700 :: [] ∧
      (700 ≤ 702 + 2 ∧ 702 ≤ 700 + 2) ∧
      ((weighingAt [.overRange, .overRange]).lane .a).samples = .overRange :: .overRange :: [] ∧
      ((weighingAt []).lane .a).phaseTimer = some 200000 ∧ 200000 ≤ (weighingAt []).now ∧ base.now < 200001 ∧
      (weighingAt []).reservedOf .a = none ∧ (withBag reservedBag base).reservedOf .a = some reservedBag := by decide

/-- A bag turned away for LIMIT is captured all the same (R50, R63). -/
theorem test_limit_keeps_capture :
    shows (exec (.scaleSample .a (.mass 1500)) { weighingAt [.mass 1500, .mass 1500] with
        depositors := base.depositors.set 0 (some { holder with liveCount := 24 }) })
      (fun t => t.laneA.returnReason == some .limit &&
        t.laneA.session.map (fun y => y.capture) == some (some (.mass 1500))) = true := by decide

/-- A drop whose hold class is INSPECT, in section 2.7's cabinet and with its tag in use or not. -/
def facts (tag : Tag) : DropFacts :=
  { lane := .a, depositor := 0, tag := tag, decl := { notes := 500, silver := 0, bronze := 0 }, mass := 32000, lo := 0,
    hi := 0, decision := .hold, holdClass := .inspect }

theorem witness_reservationDecides :
    (atLevel .opened).levels.effective = .opened ∧ retained.onMains = false ∧
      (fallback.levels.effective ≠ .opened ∧ fallback.onMains = true ∧ fallback.clock.isSet = true ∧
        fallback.register.records.length < 512) ∧
      512 ≤ (List.replicate 512 bag).length ∧ (∃ r ∈ fallback.register.records, r.tag = (facts 1234567890).tag) ∧
      (∀ r ∈ fallback.register.records, r.tag ≠ (facts 7).tag) ∧ fallback.scan .inspect 32000 = some 127 ∧
      (({ fallback with bins := fallback.bins.set 127 (filled 4 72000) } : State).scan .inspect 35000 = none ∧
        ({ fallback with bins := fallback.bins.set 127 (filled 4 72000) } : State).scan .normal 35000 = some 48) ∧
      (fallback.scan .inspect 150001 = none ∧ fallback.scan .normal 150001 = none) := by decide

/-- A CHECK of a new drop: every verdict of the table is met by a mass, and the cabinet has or has not a bin. -/
theorem witness_checkDecides :
    ((weighingAt []).lane .a).session = some { sessionAt .complete [] 0 with bronze := some 10, tag := some 7 } ∧
      ((sessionAt .complete [] 0).record = none ∧ (weighingAt []).dep (sessionAt .complete [] 0).depositor = some holder ∧
        holder.state = .active ∧ (sessionAt .complete [] 0).card = some holder.card) ∧
      ({ holder with state := .suspended } : Depositor).state = .suspended ∧ some 0 ≠ some holder.card ∧
      holder.windowCount < holder.dropLimit ∧ holder.liveCount < 24 ∧ 24 ≤ (24 : Nat) ∧
      (acceptance defaultConfig { notes := 12000, silver := 500, bronze := 10 } (.mass 1500) 1).verdict = .accept ∧
      (acceptance defaultConfig { notes := 12000, silver := 500, bronze := 10 } (.mass 60001) 1).verdict = .ret .heavy ∧
      base.dep 255 = none ∧
      ((withBag reservedBag base).findTag reservedBag.tag = some reservedBag ∧ reservedBag.state = .reserved ∧
        (withBag reservedBag base).dep reservedBag.depositor = some holder ∧ reservedBag.bin = some 0) ∧
      base.diverter.holder = none ∧ (weighingAt []).reservedOf .a = none := by decide

/-- A lane asks for the diverter while the other lane holds it. -/
theorem witness_asksDiverter :
    base.diverter.holder = none ∧ ({ weighingAt [] with diverter :=
      { idleDiverter with holder := some .b } } : State).diverter.holder ≠ none := by decide

/-- Lane A in TIP with the grant, its bag RESERVED. -/
def tipping : State :=
  { laneWith (fun y => { y with state := .tip, phaseTimer := some 200000 }) (withBag reservedBag base) with
    diverter := { idleDiverter with holder := some .a } }

theorem witness_positioningEnds :
    (tipping.lane .a).state = .tip ∧ (tipping.lane .a).phaseTimer = some 200000 ∧ 200000 ≤ tipping.now ∧
      tipping.reservedOf .a = some reservedBag ∧ tipping.register.sound ∧ tipping.diverter.holder = some .a ∧
      tipping.diverter.waiting .a = false ∧ base.now < 200001 ∧ tipping.register.fieldsSound := by decide

/-- Lane A in TIP with the grant and lane B in TIP_WAIT, each with its record, B's in bin 1/00. -/
def tippingBoth : State :=
  ({ tipping with
    register := { tipping.register with
      records := [reservedBag, { reservedBag with lane := .b, tag := 7, bin := some 16 }] }
    diverter := { idleDiverter with holder := some .a, lastServed := .a, waitingB := true } } : State).modLane .b
      (fun y => { y with state := .tipWait })

theorem witness_grantPasses :
    tippingBoth.diverter.holder = some .a ∧ tippingBoth.diverter.waiting .a = false ∧
      tippingBoth.diverter.waiting LaneId.a.other = true ∧ tipping.diverter.waiting LaneId.a.other = false ∧
      tippingBoth.register.sound ∧ (tippingBoth.reservedOf .b).isSome = true ∧ (tippingBoth.lane .a).state = .tip := by
  decide

/-- Two waiting lanes, of which the grant goes to the one not last served; and a holder with no lane waiting. -/
theorem witness_releasedGrantGoesOn :
    ({ tippingBoth.diverter with waitingA := true } : Diverter).waiting .b = true ∧ LaneId.b ≠ .a ∧
      tippingBoth.diverter.lastServed = .a ∧ tipping.diverter.waiting .a = false ∧
      tipping.diverter.waiting .b = false ∧ tipping.diverter.holder = some .a := by decide

/-- A's positioning fails: the grant goes to B, and the diverter to B's bin (the worked example of section 3.4). -/
theorem test_grant_passes :
    shows (exec (.positioningExpiry .a false) tippingBoth)
      (fun t => t.diverter.holder == some .b && t.diverter.target == some 16 && t.laneB.state == .tip &&
        t.laneB.phaseTimer == some 200800) = true := by decide

/-- Receipt 999,999 is in use, so the tip takes 1 and the next is 2 (R10). -/
theorem test_tip_skips_numbers_in_use :
    shows (exec (.positioningExpiry .a true) { tipping with register :=
        { records := [reservedBag, { bag with tag := 7, receipt := some 999999 }], nextReceipt := 999999 } })
      (fun t => t.register.nextReceipt == 2 &&
        t.register.records.map (fun r => r.receipt) == [some 1, some 999999]) = true := by decide

/-- Lane A in ROUTE, 4 s after its tip, with an arrival read perhaps in progress. -/
def routing (read : Option Nat) : State :=
  let part : Route := { record := bag.tag, tipTime := { day := 1, second := 43196 }, tipCount := 196000,
                        sensor := true, arrivalRead := read }
  { laneWith (fun y => { y with state := .route, route := some part }) (withBag flyingBag base) with
    diverter := { idleDiverter with holder := some .a } }

theorem witness_routeEnds :
    ((routing (some 200000)).lane .a).route.isSome = true ∧
      (((routing (some 200000)).lane .a).route.bind (fun y => y.arrivalRead)) = some 200000 ∧
      200000 ≤ (routing (some 200000)).now ∧ base.now < 200001 ∧ bag.tag ∈ [bag.tag] ∧ bag.tag ∉ [7] ∧
      ((routing none).findTag bag.tag = some flyingBag ∧ flyingBag.state = .inFlight ∧
        ((routing none).lane .a).state = .route ∧ (routing none).diverter.waiting .a = false) ∧
      flyingBag.receipt = some 1 ∧ flyingBag.dropTime = some { day := 1, second := 0 } ∧
      196000 + 4000 ≤ (routing none).now ∧ base.now < 196001 + 4000 := by decide

/-- An arrival at a lane closed by a reason, and at one whose set has been emptied, with and without a bag. -/
def closedRouting (reasons : CloseSet) (bagIn : Bool) : State := shut reasons bagIn (routing (some 200000))

theorem witness_routeEnds_closed :
    ∀ reasons ∈ [noReasons, forcedOnly], ∀ bagIn, ((closedRouting reasons bagIn).lane .a).isClosed = true ∧
      ((closedRouting reasons bagIn).lane .a).reasons = reasons ∧
      (closedRouting reasons bagIn).findTag bag.tag = some flyingBag ∧
      (closedRouting reasons bagIn).reservedOf .a = none ∧ (closedRouting reasons bagIn).diverter.waiting .a = false ∧
      ((closedRouting reasons bagIn).lane .a).inputs.bagPresent = bagIn := by decide

/-- The receipt is printed, and the lane stays closed by its set (R24, R52, R66). -/
theorem test_arrival_at_closed_lane :
    shows (exec (.arrivalReadComplete .a [bag.tag] false) (closedRouting forcedOnly false))
      (fun t => t.laneA.state == .closed && t.laneA.route == none &&
        t.laneA.printed == some { number := 1, dropTime := { day := 1, second := 0 }, lane := .a, total := 12510 }) =
      true := by decide

theorem witness_pulsesAndReturns :
    (∀ n o, ((laneWith (fun y => y.setOutput o { on := true, high := true, pulseEnd := some n }) base).lane .a
        |>.output o).pulseEnd = some n) ∧
      (200000 ≤ base.now ∧ base.now < 200001) ∧ ((base.lane .a).route = none ∧ (base.lane .a).state ≠ .ret) ∧
      ((laneWith (fun y => { y with inputs := { y.inputs with bagPresent := true } }) (routing none)).lane .a).route ≠
        none ∧
      (∀ closed, ((drawer .ret (inputsOf closed false true false) none none).lane .a).inputs.drawerClosed = closed) ∧
      (∀ bagIn, ((drawer .returnWait (inputsOf false false bagIn false) none (some 200000)).lane .a).state =
          .returnWait ∧
        ((drawer .returnWait (inputsOf false false bagIn false) none (some 200000)).lane .a).phaseTimer = some 200000 ∧
        ((drawer .returnWait (inputsOf false false bagIn false) none (some 200000)).lane .a).inputs.bagPresent =
          bagIn) := by
  refine ⟨?_, by decide, by decide, by decide, by decide, by decide⟩
  intro n o; cases o <;> rfl

theorem witness_reachesIdle :
    (base.lane .a).reasons = noReasons ∧ ((shut forcedOnly false base).lane .a).reasons ≠ noReasons := by decide

/-- A record made by the settling sample of a new drop. -/
theorem witness_RecordsComeFromReservations :
    shows (exec (.scaleSample .a (.mass 1500)) (weighingAt [.mass 1500, .mass 1500]))
      (fun t => t.register.records.any (fun r => r.tag == 7)) = true ∧
      (weighingAt [.mass 1500, .mass 1500]).findTag 7 = none := by decide

/-! ### Power -/

def onBattery : State := { base with power := { state := .battery, mainsPresent := false, batteryLow := false } }

theorem witness_mainsLost :
    retained.onMains = false ∧ base.onMains = true ∧ ((routing none).lane .a).route ≠ none ∧
      (base.lane .a).route = none ∧ tipping.diverter.holder = some .a ∧ (tipping.lane .a).state = .tip := by decide

theorem witness_mainsBack :
    base.onMains = true ∧ onBattery.onMains = false ∧ onBattery.grant = .nothing ∧
      ({ onBattery with selection := some (choice .branch .active) } : State).grant ≠ .nothing ∧
      onBattery.inRetention = false ∧ retained.inRetention = true ∧
      (retained.bin 1).latch = .latched ∧ ((retained.modBin 1 (fun b => { b with latch := .unsecured })).bin 1).latch =
        .unsecured ∧
      ((retained.modBin 1 (fun b => { b with latch := .fault })).bin 1).latch = .fault := by decide

theorem witness_retentionEntered :
    base.power.state ≠ .battery ∧ onBattery.power.state = .battery ∧
      ((withBag flyingBag onBattery).register.sound ∧ (withBag flyingBag onBattery).levels.effective ≠ .opened ∧
        flyingBag ∈ (withBag flyingBag onBattery).register.records ∧ flyingBag.state = .inFlight) ∧
      ((base.bin 1).latch = .latched ∧ (base.bin 1).op = .idle) ∧
      ((base.modBin 1 (fun b => { b with op := .releasing 9 })).bin 1).op ≠ .idle := by decide

/-- A lane that holds POWER alone. -/
def powerLane : Lane := { openLane with state := .closed, reasons := { noReasons with power := true } }

/-- Records at the entry into RETENTION, from OPEN with both lanes holding POWER and from a lower level. -/
theorem witness_retentionEntered_records :
    (∀ x, (({ atLevel .opened with laneA := powerLane, laneB := powerLane } : State).lane x).reasons.power = true) ∧
      (atLevel .opened).register.sound ∧ bag ∈ (atLevel .opened).register.records ∧
      ((withBag reservedBag onBattery).register.sound ∧ reservedBag ∈ (withBag reservedBag onBattery).register.records ∧
        reservedBag.state = .reserved) ∧
      ((withBag { bag with state := .listed } onBattery).register.sound ∧
        { bag with state := .listed } ∈ (withBag { bag with state := .listed } onBattery).register.records ∧
        (manifestIn .active [1]).state = .active ∧ bag.receipt = some 1 ∧ 1 ∈ (manifestIn .active [1]).entries) := by
  refine ⟨fun x => ?_, by decide, by decide, by decide, by decide⟩
  cases x <;> rfl

/-- A LISTED record of the collection under way is HELD again, and the lane keeps its reasons and stays closed. -/
theorem test_retention_ends_collection :
    shows (exec .batteryLow { withBag { bag with state := .listed } onBattery with
        manifest := manifestIn .active [1], laneA := powerLane, laneB := powerLane })
      (fun t => (t.findTag bag.tag).map (fun r => r.state) == some .held && t.laneA.isClosed &&
        t.laneA.reasons == { noReasons with power := true } && t.manifest.state == .closed) = true := by decide

/-- The lines as a return from RETENTION finds them. -/
def cabinetShut : CabinetLines := { doorsOpen := 0, inputsA := shutDrawer, inputsB := shutDrawer }
def linesAtMark : RestartLines := { branchSpace := false, courierSpace := false }

/-- A return of mains neither sets nor clears the battery-low condition (R208). -/
theorem test_return_keeps_battery_condition :
    shows (exec (.mainsReturn cabinetShut linesAtMark) onBattery) (fun t => t.onMains && !t.power.batteryLow) = true ∧
      shows (exec (.mainsReturn cabinetShut linesAtMark) retained) (fun t => t.onMains && t.power.batteryLow) = true := by
  decide

/-- 1 ms in RETENTION leaves RETENTION for no other state, whatever the battery does (R208). -/
theorem test_retention_lasts : shows (step retained) (fun t => t.inRetention && !t.power.mainsPresent) = true := by
  decide

/-- An UNSECURED bin whose engage is given up at the entry into RETENTION is a notice (R133, R143). -/
theorem test_retention_unsecures :
    shows (exec .batteryLow (onBattery.modBin 1 (fun b => { b with latch := .unsecured, op := .engaging 9 false })))
      (fun t => (t.bin 1).latch == .unsecured && (t.bin 1).op == .idle && t.security.notices == 0x22) = true := by decide

def foundShut : FieldLines :=
  { doorsOpen := 0, inputsA := shutDrawer, inputsB := shutDrawer, branchSpace := false, securitySpace := false,
    courierSpace := false }

theorem witness_coldStartInitialises :
    ({ base with marker := false } : State).marker = false ∧ (base.marker && false) = false ∧
      foundShut = { doorsOpen := 0, inputsA := shutDrawer, inputsB := shutDrawer, branchSpace := false,
                    securitySpace := false, courierSpace := false } := by decide

theorem witness_coldStartKeepsStorage :
    base.marker = true ∧ (withBag flyingBag base).register.sound ∧ (withBag flyingBag base).cabinetSound ∧
      showsForcing foundShut.inputsA = false ∧
      flyingBag.state = .inFlight ∧ bag.state ≠ .inFlight ∧ bag.state ≠ .listed ∧
      forcedOnly.forced = true ∧ ((base.bin 1).latch = .latched ∧ foundShut.doorsOpen.getLsbD 1 = false) ∧
      ({ foundShut with doorsOpen := 2 } : FieldLines).doorsOpen.getLsbD 1 = true ∧
      ((standing .branch).bin 1).latch = .unlatched ∧
      ((withBag { bag with state := .listed } base).register.sound ∧
        { bag with state := .listed } ∈ (withBag { bag with state := .listed } base).register.records ∧
        (manifestIn .active [1]).state = .active ∧ 1 ∈ (manifestIn .active [1]).entries) := by decide

/-! ### A few single steps -/

/-- At lane B the tag of a live record is a duplicate, and the bag goes back (R62). -/
theorem test_duplicate_tag_returned :
    shows (exec (.tagRead .a (some bag.tag)) (laneWith (fun y => { y with state := .load, tagReader := some .load }) base))
      (fun t => t.laneA.returnReason == some .duplicate && t.laneA.state == .ret) = true := by decide

/-- A bag accepted at lane A takes the NORMAL cursor's bin and its lane goes to TIP (R64, R42, R71). -/
theorem test_accepted_bag_reserved :
    shows (exec (.scaleSample .a (.mass 1500)) (weighingAt [.mass 1500, .mass 1500]))
      (fun t => t.laneA.state == .tip && t.diverter.target == some 0 && t.laneA.phaseTimer == some 200800 && t.bins.get 0 == { base.bin 0 with contents := [bag.tag, 7], massSum := 2200 } &&
        t.alloc.normalSerial == 1) = true := by decide

/-- The tip takes the next receipt number, which then goes up by one (R10, R65). -/
theorem test_tip_numbers_the_record :
    shows (exec (.positioningExpiry .a true) tipping)
      (fun t => t.register.nextReceipt == 3 && t.laneA.state == .route &&
        t.register.records.all (fun r => r.receipt == some 2)) = true := by decide

/-- A LATCHED bin whose door opens is UNSECURED and the security link is told (R125). -/
theorem test_forced_door :
    shows (exec (.doorChange 3 .opened) base)
      (fun t => (t.bin 3).latch == .unsecured && t.security.notices == 0x02) = true := by decide

/-- RAISE DURESS at OPEN: SEALED at once, and the bin that stood open with its door CLOSED engages (R109, R114). -/
theorem test_duress_seals :
    shows (exec (.raiseDuress .security) (standing .branch))
      (fun t => t.levels.effective == .sealed && (t.bin 1).op == .engaging 200000 false &&
        (t.bin 2).latch == .unsecured) = true := by decide

/-- Entry into RETENTION: the flying record is ASTRAY out of its bin (R24, R208). -/
theorem test_retention_astray :
    shows (exec .batteryLow (withBag flyingBag onBattery))
      (fun t => t.inRetention && (t.bin 0).contents == [] && (t.bin 0).massSum == 0 &&
        t.register.records.all (fun r => r.state == .astray && r.flags.misrouteSuspect)) = true := by decide

/-- The step from reset on an empty queue is 1 ms of the clock (R205). -/
theorem test_idle_step_counts : shows (step State.reset) (fun t => t.clock.count == 1 && t.clock.milli == 1) = true := by
  decide

/-- SCAN of a LISTED bag releases it (R184). -/
theorem test_scan_releases :
    shows (exec (.scan .courier 0x1234567890) (listing .active))
      (fun t => t.manifest.released == 1 && (t.bin 0).contents == [] &&
        t.register.records.all (fun r => r.state == .released)) = true := by decide


end Sys2Proof.Tests
end

/-!
The end of an unlatch or a relatch that does not confirm within its 1 s (R33, R131, R133): what the fault of a latch
and the end of a RELEASING selection do to the state, and O27.
-/
namespace Sys2Proof.Machine

/-! ### A latch in FAULT (R33) -/

/-- The fault of a latch touches its bin and the notices of the security link, which runs in every power state (R202). -/
theorem State.faultLatch_eq (s : State) (i : BinIdx) :
    s.faultLatch i =
      { s with
        bins := s.bins.set i { s.bin i with latch := .fault, cls := .outOfService, op := .idle }
        security := { s.security with notices := s.security.notices ||| 0x02 } } := rfl

theorem State.bin_faultLatch_self (s : State) (i : BinIdx) :
    (s.faultLatch i).bin i = { s.bin i with latch := .fault, cls := .outOfService, op := .idle } := by
  simp [State.faultLatch_eq, State.bin]

theorem State.bin_faultLatch_ne (s : State) {i j : BinIdx} (h : j ≠ i) : (s.faultLatch i).bin j = s.bin j := by
  simp [State.faultLatch_eq, State.bin, Table.get_set_ne _ _ _ _ h.symm]

/-- BIN UNSECURED, bit 1 of a set of notices on the security link (R200), is present once raised. -/
theorem binUnsecured_present (x : BitVec 8) : (x ||| 0x02) &&& 0x02 ≠ 0 := by
  intro h
  have bit : ((x ||| 0x02) &&& 0x02).getLsbD 1 = (0 : BitVec 8).getLsbD 1 := congrArg (BitVec.getLsbD · 1) h
  simp at bit

theorem State.faultLatch_raises_binUnsecured (s : State) (i : BinIdx) :
    (s.faultLatch i).security.notices &&& 0x02 ≠ 0 := by
  rw [State.faultLatch_eq]
  exact binUnsecured_present _

/-! ### The end of a RELEASING selection (R134) -/

/-- Nothing of the rack of a RELEASING selection is left to relatch (R134). -/
def State.releaseDone (s : State) : Prop :=
  ∃ x, s.selection = some x ∧ x.phase = .releasing ∧ s.rackQuiet x.rack = true

theorem State.endIfDone_of_done {s : State} (h : s.releaseDone) : s.endIfDone = s.endSelection := by
  obtain ⟨x, hsel, hphase, hquiet⟩ := h
  simp [State.endIfDone, hsel, hphase, hquiet]

theorem State.endIfDone_of_not_done {s : State} (h : ¬ s.releaseDone) : s.endIfDone = s := by
  unfold State.endIfDone
  split
  next x hsel =>
    split
    next hdone => exact absurd ⟨x, hsel, hdone⟩ h
    next => rfl
  next => rfl

@[simp] theorem State.selection_endSelection (s : State) : s.endSelection.selection = none := by
  simp [State.endSelection]

/-- Asking for the free bus touches the sweep and the power state alone (R147, R210). -/
theorem State.askBus_eq (s : State) : s.askBus = { s with sweep := s.askBus.sweep, power := s.askBus.power } := by
  unfold State.askBus
  (repeat' split) <;> rfl

theorem State.endSelection_eq (s : State) :
    s.endSelection =
      { s with selection := none, sweep := s.endSelection.sweep, power := s.endSelection.power } := by
  unfold State.endSelection
  rw [State.askBus_eq]

/-- The selection, the sweep and the power state are all that the end of a release may change (R134). -/
theorem State.endIfDone_eq (s : State) :
    s.endIfDone =
      { s with selection := s.endIfDone.selection, sweep := s.endIfDone.sweep, power := s.endIfDone.power } := by
  by_cases h : s.releaseDone
  · rw [State.endIfDone_of_done h, State.selection_endSelection, ← State.endSelection_eq]
  · rw [State.endIfDone_of_not_done h]

@[simp] theorem State.bin_endIfDone (s : State) (i : BinIdx) : s.endIfDone.bin i = s.bin i := by
  simp [State.bin]

/-- An event `u` that leaves the selection, the sweep and the power state as they were in `s`, followed by the test of
R134, ends the selection exactly when the release is done. -/
theorem selectionEndsWhenQuiet_endIfDone {s u : State} (hsel : u.selection = s.selection) (hsweep : u.sweep = s.sweep)
    (hpower : u.power = s.power) : selectionEndsWhenQuiet s u.endIfDone := by
  refine ⟨u.releaseDone, ?_, fun done => ?_, fun notDone => ?_⟩
  · simp only [State.releaseDone, State.rackQuiet_iff, State.bin_endIfDone, hsel]
  · rw [State.endIfDone_of_done done, State.selection_endSelection]
  · rw [State.endIfDone_of_not_done notDone]
    exact ⟨hsel, hsweep, hpower⟩

/-! ### The timeout of a latch operation (R131, R133) -/

/-- The 1 s of a latch operation that began at count `n` is up 1000 steps later. -/
theorem latchLate_some (n now : Nat) : latchLate (some n) now = true ↔ n + 1000 ≤ now := by
  simp [latchLate, due, latchMs]

theorem execReleaseTimeout_late {i : BinIdx} {s : State} {n : Nat} (hop : (s.bin i).op = .releasing n)
    (hlate : n + 1000 ≤ s.now) : exec (.releaseTimeout i) s = .next (s.faultLatch i).endIfDone := by
  have late : latchLate (s.bin i).op.releasingSince s.now = true := by
    rw [hop]; exact (latchLate_some n s.now).2 hlate
  change execReleaseTimeout i s = _
  rw [execReleaseTimeout, if_pos late]

theorem execEngageTimeout_late {i : BinIdx} {s : State} {n : Nat} {byRelatch : Bool}
    (hop : (s.bin i).op = .engaging n byRelatch) (hlate : n + 1000 ≤ s.now) :
    exec (.engageTimeout i) s = .next (s.faultLatch i).endIfDone := by
  have late : latchLate (s.bin i).op.engagingSince s.now = true := by
    rw [hop]; exact (latchLate_some n s.now).2 hlate
  change execEngageTimeout i s = _
  rw [execEngageTimeout, if_pos late]

/-- The fault of a latch and the test of R134 after it change bins, security link, selection, sweep and power alone. -/
theorem State.faultLatch_endIfDone_eq (s : State) (i : BinIdx) :
    (s.faultLatch i).endIfDone =
      { s with
        bins := (s.faultLatch i).endIfDone.bins
        security := (s.faultLatch i).endIfDone.security
        selection := (s.faultLatch i).endIfDone.selection
        sweep := (s.faultLatch i).endIfDone.sweep
        power := (s.faultLatch i).endIfDone.power } := by
  rw [State.endIfDone_eq, State.faultLatch_eq]

/-- Settles O27: both timeouts fault the latch (R33) and then test whether the release of its rack is done (R134). -/
theorem failedLatchIsFault : Obligations.FailedLatchIsFault := by
  intro i s n c hcase hlate
  have hexec : exec c s = .next (s.faultLatch i).endIfDone := by
    obtain ⟨hop, rfl⟩ | ⟨⟨byRelatch, hop⟩, rfl⟩ := hcase
    · exact execReleaseTimeout_late hop hlate
    · exact execEngageTimeout_late hop hlate
  refine ⟨_, hexec, ?self, ?others, ?register, ?notice, State.faultLatch_endIfDone_eq s i, ?selection⟩
  case self => rw [State.bin_endIfDone, State.bin_faultLatch_self]
  case others =>
    intro j hj
    rw [State.bin_endIfDone, State.bin_faultLatch_ne s hj]
  case register => simp
  case notice =>
    simpa using State.faultLatch_raises_binUnsecured s i
  case selection => exact selectionEndsWhenQuiet_endIfDone (by simp) (by simp) (by simp)

end Sys2Proof.Machine

/-!
The acceptance check (chapter 4): what rounding and clamping do to the sums (R79, R80), the order of the band's edges
and margin bounds (R81, R82), the test that each zone stands for (R83), and O10 and O11.
-/
namespace Sys2Proof.Machine

/-! ### Rounding and clamping (R79, R80) -/

/-- The quotient rounded up is the least whole number that reaches the quotient. -/
theorem divUp_eq_of_reaches {a b n : Nat} (least : b * n < a + b) (reaches : a ≤ b * n) : divUp a b = n := by
  refine Nat.div_eq_of_lt_le ?_ ?_
  · rw [Nat.mul_comm]
    omega
  · rw [Nat.mul_comm, Nat.mul_add_one]
    omega

theorem div_le_divUp {a a' b : Nat} (hb : 0 < b) (h : a ≤ a') : a / b ≤ divUp a' b :=
  Nat.div_le_div_right (by omega)

theorem clampMass_eq_ite (n : Nat) : clampMass n = if 65535 < n then 65535 else n := by
  simp only [clampMass, maxMass]
  split <;> omega

theorem clampMass_mono {a b : Nat} (h : a ≤ b) : clampMass a ≤ clampMass b :=
  min_le_min_right maxMass h

theorem clampMass_le (n : Nat) : clampMass n ≤ maxMass := min_le_right n maxMass

/-- A note's low term is no more than its high term, as 8 to 5000 is no more than 10 to 500. -/
theorem noteLow_le_noteHigh (n : Nat) : n * 8 / 5000 ≤ divUp (n * 10) 500 := by
  simp only [divUp]
  omega

theorem lowSum_le_highSum {c : ConfigWord} (d : Declaration) (tare : c.tareMin ≤ c.tareMax)
    (silver : c.silverLow ≤ c.silverHigh) (bronze : c.bronzeLow ≤ c.bronzeHigh) : lowSum c d ≤ highSum c d := by
  have notes := noteLow_le_noteHigh d.notes
  have silvers := div_le_divUp (b := 100) (by decide) (Nat.mul_le_mul_left d.silver silver)
  have bronzes := div_le_divUp (b := 100) (by decide) (Nat.mul_le_mul_left d.bronze bronze)
  unfold lowSum highSum
  omega

/-- Settles O10: the sums by their definition and the least number that reaches each high term, and the order of the
clamped sums by monotony of the clamping. -/
theorem sumsClampInOrder : Obligations.SumsClampInOrder := by
  intro c d capture trust
  refine ⟨rfl, ?high, clampMass_eq_ite _, clampMass_eq_ite _, fun tare silver bronze => ?order⟩
  case high =>
    intro n1 n2 n3 least1 reaches1 least2 reaches2 least3 reaches3
    rw [highSum, divUp_eq_of_reaches least1 reaches1, divUp_eq_of_reaches least2 reaches2,
      divUp_eq_of_reaches least3 reaches3]
  case order =>
    have sums := lowSum_le_highSum d tare silver bronze
    exact ⟨sums, clampMass_mono sums⟩

/-! ### The band and the zones (R81 to R83) -/

/-- The tolerance widens the clamped sums, which a sound configuration keeps in order (R80, R81). -/
theorem bandLo_le_bandHi {c : ConfigWord} (h : c.sound) (d : Declaration) : bandLo c d ≤ bandHi c d := by
  obtain ⟨-, -, -, -, -, -, -, -, -, ⟨tare, -⟩, ⟨-, silver, -⟩, ⟨-, bronze, -⟩, -⟩ := h
  have low : bandLo c d ≤ clampMass (lowSum c d) := Nat.sub_le ..
  have clamped : clampMass (lowSum c d) ≤ clampMass (highSum c d) :=
    clampMass_mono (lowSum_le_highSum d tare silver bronze)
  have high : clampMass (highSum c d) ≤ bandHi c d := le_min (Nat.le_add_right ..) (clampMass_le _)
  exact low.trans (clamped.trans high)

/-- The edges and the margin bounds stand in order along the line of masses (R82, R83). -/
theorem margins_around_band {c : ConfigWord} (h : c.sound) (d : Declaration) :
    lowerMargin c d ≤ (bandLo c d : Int) ∧ bandLo c d ≤ bandHi c d ∧ (bandHi c d : Int) ≤ upperMargin c d := by
  refine ⟨?_, bandLo_le_bandHi h d, ?_⟩
  · exact Int.sub_le_self _ (Int.natCast_nonneg _)
  · exact Int.le_add_of_nonneg_right (Int.natCast_nonneg _)

/-- What a mass meets in each zone of R83: the zone's test, and above it in the list the failure of OVER LIMIT and
UNDER TARE, which are not about the band. -/
def zoneTest (c : ConfigWord) (d : Declaration) (m : Nat) : Zone → Prop
  | .overLimit => bagMassLimit < m
  | .underTare => m ≤ bagMassLimit ∧ m < c.tareMin
  | .inBand => m ≤ bagMassLimit ∧ c.tareMin ≤ m ∧ bandLo c d ≤ m ∧ m ≤ bandHi c d
  | .lowMargin => m ≤ bagMassLimit ∧ c.tareMin ≤ m ∧ lowerMargin c d ≤ (m : Int) ∧ m < bandLo c d
  | .highMargin => m ≤ bagMassLimit ∧ c.tareMin ≤ m ∧ bandHi c d < m ∧ (m : Int) ≤ upperMargin c d
  | .light => m ≤ bagMassLimit ∧ c.tareMin ≤ m ∧ (m : Int) < lowerMargin c d
  | .overweight => m ≤ bagMassLimit ∧ c.tareMin ≤ m ∧ upperMargin c d < (m : Int)

/-- The zone of a mass is one whose test it meets, as the last branch of the list leaves only masses above the upper
margin bound. -/
theorem zoneTest_zoneOf (c : ConfigWord) (d : Declaration) (m : Nat) : zoneTest c d m (zoneOf c d (.mass m)) := by
  simp only [zoneOf]
  split_ifs <;> simp only [zoneTest] <;> omega

/-- A mass meets the test of one zone only: since edges and bounds stand in order, each test excludes those before it
in the list. -/
theorem zoneOf_of_zoneTest {c : ConfigWord} (h : c.sound) {d : Declaration} {m : Nat} {z : Zone}
    (met : zoneTest c d m z) : zoneOf c d (.mass m) = z := by
  obtain ⟨lower, edges, upper⟩ := margins_around_band h d
  clear h
  simp only [zoneOf]
  cases z with
  | overLimit => exact if_pos met
  | underTare =>
    obtain ⟨limit, tare⟩ := met
    rw [if_neg (by omega), if_pos tare]
  | inBand =>
    obtain ⟨limit, tare, band⟩ := met
    rw [if_neg (by omega), if_neg (by omega), if_pos band]
  | lowMargin =>
    obtain ⟨limit, tare, margin⟩ := met
    rw [if_neg (by omega), if_neg (by omega), if_neg (by omega), if_pos margin]
  | highMargin =>
    obtain ⟨limit, tare, margin⟩ := met
    rw [if_neg (by omega), if_neg (by omega), if_neg (by omega), if_neg (by omega), if_pos margin]
  | light =>
    obtain ⟨limit, tare, below⟩ := met
    rw [if_neg (by omega), if_neg (by omega), if_neg (by omega), if_neg (by omega), if_neg (by omega), if_pos below]
  | overweight =>
    obtain ⟨limit, tare, above⟩ := met
    rw [if_neg (by omega), if_neg (by omega), if_neg (by omega), if_neg (by omega), if_neg (by omega),
      if_neg (by omega)]

theorem zoneOf_eq_iff {c : ConfigWord} (h : c.sound) (d : Declaration) (m : Nat) (z : Zone) :
    zoneOf c d (.mass m) = z ↔ zoneTest c d m z :=
  ⟨fun eq => eq ▸ zoneTest_zoneOf c d m, zoneOf_of_zoneTest h⟩

/-- Without a margin the bounds are the band's edges, and no mass is below an edge of 0 (R82, R83). -/
theorem zoneOf_ne_lowMargin {c : ConfigWord} (h : c.sound) {d : Declaration} (m : Nat)
    (empty : c.margin = 0 ∨ bandLo c d = 0) : zoneOf c d (.mass m) ≠ .lowMargin := by
  intro eq
  obtain ⟨-, -, bound, below⟩ := (zoneOf_eq_iff h d m .lowMargin).1 eq
  rw [lowerMargin] at bound
  omega

theorem zoneOf_ne_highMargin {c : ConfigWord} (h : c.sound) (d : Declaration) (m : Nat) (empty : c.margin = 0) :
    zoneOf c d (.mass m) ≠ .highMargin := by
  intro eq
  obtain ⟨-, -, above, bound⟩ := (zoneOf_eq_iff h d m .highMargin).1 eq
  rw [upperMargin] at bound
  omega

/-- Settles O11: each zone is told by its test, and the margins that are empty by the order of the bounds. -/
theorem zonesPartitionMasses : Obligations.ZonesPartitionMasses := by
  intro c d trust h
  refine ⟨rfl, fun m => ⟨_, rfl, ?_⟩⟩
  have tells := zoneOf_eq_iff h d m
  exact ⟨tells .overLimit, tells .underTare, tells .inBand, tells .lowMargin, tells .highMargin, tells .light,
    tells .overweight, zoneOf_ne_lowMargin h m, zoneOf_ne_highMargin h d m,
    fun le _ _ tare => (tells .underTare).2 ⟨le, tare⟩⟩

end Sys2Proof.Machine

/-!
Records on the desk (chapter 9): the record that a receipt number names (R158), a posted result and the trust it moves
(R101, R164), the entry that a retirement frees (R100, R165), and O42.
-/
namespace Sys2Proof.Machine

/-! ### A taken request and its owner's answer (R195) -/

theorem State.answerRequest_eq_turnsAway {s : State} {l : Link} {code : Nat} {owner : State → State × Answer}
    {why : Status} (take : s.canTake l = true) (carried : carries l code = true) (owned : owner s = s.refused why) :
    s.answerRequest l code owner = s.turnsAway l code why := by
  rw [State.answerRequest_taken take carried, owned]
  rfl

theorem State.answerRequest_eq_answers {s t : State} {l : Link} {code : Nat} {owner : State → State × Answer}
    {x : Result} (take : s.canTake l = true) (carried : carries l code = true) (owned : owner s = t.okWith x) :
    s.answerRequest l code owner = t.answers l code x := by
  rw [State.answerRequest_taken take carried, owned]
  rfl

/-! ### The record that a receipt number names (R158) -/

theorem State.findKey_receipt_range {n : BitVec 24} (out : n.toNat = 0 ∨ 999999 < n.toNat) (s : State) :
    s.findKey (.receipt n) = .error .range := by
  have invalid : receiptOf n = none := if_neg (by omega)
  simp [State.findKey, invalid]

theorem State.findKey_receipt_unknown {s : State} {n : BitVec 24} (pos : 1 ≤ n.toNat) (le : n.toNat ≤ 999999)
    (missing : s.findReceipt n.toNat = none) : s.findKey (.receipt n) = .error .unknown := by
  have valid : receiptOf n = some n.toNat := if_pos ⟨pos, le⟩
  simp [State.findKey, valid, missing]

theorem State.findKey_receipt_found {s : State} {n : BitVec 24} {r : BagRecord} (pos : 1 ≤ n.toNat)
    (le : n.toNat ≤ 999999) (found : s.findReceipt n.toNat = some r) : s.findKey (.receipt n) = .ok r := by
  have valid : receiptOf n = some n.toNat := if_pos ⟨pos, le⟩
  simp [State.findKey, valid, found]

theorem State.findReceipt_mem {s : State} {n : Nat} {r : BagRecord} (found : s.findReceipt n = some r) :
    r ∈ s.register.records :=
  List.mem_of_find?_eq_some found

theorem State.receipt_of_findReceipt {s : State} {n : Nat} {r : BagRecord} (found : s.findReceipt n = some r) :
    r.receipt = some n := by
  simpa using List.find?_some found

/-- No two live records hold the same receipt number (R10). -/
theorem Register.eq_of_receipt_eq {x : Register} (h : x.fieldsSound) {r q : BagRecord} (hr : r ∈ x.records)
    (hq : q ∈ x.records) {n : Nat} (rn : r.receipt = some n) (qn : q.receipt = some n) : r = q := by
  obtain ⟨-, -, unique⟩ := h
  by_contra ne
  have apart := List.pairwise_filterMap.1 unique
  have symmetric : Std.Symm fun a b : BagRecord => ∀ m, a.receipt = some m → ∀ k, b.receipt = some k → m ≠ k :=
    ⟨fun _ _ ne m hm k hk => (ne k hk m hm).symm⟩
  exact apart.forall hr hq ne n rn n qn rfl

/-! ### Freeing a record's entry (R1) -/

@[simp] theorem State.findTag_dropRecord_self (s : State) (t : Tag) : (s.dropRecord t).findTag t = none := by
  simp [State.findTag]

/-- Where receipt numbers are unique, dropping the record that holds one leaves none that does. -/
theorem State.findReceipt_dropRecord {s : State} {n : Nat} {r : BagRecord} (h : s.register.fieldsSound)
    (found : s.findReceipt n = some r) : (s.dropRecord r.tag).findReceipt n = none := by
  simp only [State.findReceipt, State.records_dropRecord, List.find?_eq_none, List.mem_filter, bne_iff_ne, beq_iff_eq]
  intro q ⟨hq, other⟩ qn
  have same := Register.eq_of_receipt_eq h hq (State.findReceipt_mem found) qn (State.receipt_of_findReceipt found)
  exact other (congrArg BagRecord.tag same)

/-- Where tag serials are unique, dropping a live record frees exactly one entry. -/
theorem State.live_dropRecord {s : State} {r : BagRecord} (h : s.register.sound) (mem : r ∈ s.register.records) :
    (s.dropRecord r.tag).live + 1 = s.live := by
  obtain ⟨-, unique, -⟩ := h
  have tagMem : r.tag ∈ s.register.records.map BagRecord.tag := List.mem_map_of_mem mem
  have tags : (s.dropRecord r.tag).register.records.map BagRecord.tag =
      (s.register.records.map BagRecord.tag).erase r.tag := by
    rw [List.Nodup.erase_eq_filter unique, List.filter_map]
    rfl
  have lengths := congrArg List.length tags
  rw [List.length_erase_of_mem tagMem, List.length_map, List.length_map] at lengths
  have pos := List.length_pos_of_mem mem
  simp only [State.live]
  omega

/-! ### What a posting writes (R22, R101) -/

theorem difference_le_iff (a b tolerance : Nat) :
    difference a b ≤ tolerance ↔ a ≤ b + tolerance ∧ b ≤ a + tolerance := by
  unfold difference
  split <;> omega

theorem State.agrees_eq (s : State) (r : BagRecord) (counted : Nat) :
    s.agrees r counted = decide (r.decl.total ≤ counted + s.config.countTolerance ∧
      counted ≤ r.decl.total + s.config.countTolerance) := by
  simp only [State.agrees, difference_le_iff]

theorem State.register_post (s : State) (r : BagRecord) (counted : Nat) :
    (s.post r counted).register = { s.register with records := s.register.records.map (fun x => if x.tag = r.tag then
      { x with result := some counted, state := if x.state = .taken then .counted else x.state } else x) } := rfl

theorem State.post_eq (s : State) (r : BagRecord) (counted : Nat) :
    s.post r counted =
      { s with register := (s.post r counted).register, depositors := (s.post r counted).depositors } := rfl

theorem State.dep_post (s : State) (r : BagRecord) (counted : Nat) (j : DepIdx) :
    (s.post r counted).dep j = if r.depositor = j
      then (s.dep j).map (fun d => { d with trust := trustAfter d.trust (s.agrees r counted) }) else s.dep j :=
  State.dep_modDep _ _ _ _

theorem State.dep_post_self {s : State} {r : BagRecord} {d : Depositor} (held : s.dep r.depositor = some d)
    (counted : Nat) :
    (s.post r counted).dep r.depositor = some { d with trust := trustAfter d.trust (s.agrees r counted) } := by
  rw [State.dep_post, if_pos rfl, held]
  rfl

theorem State.trustHeld_of_dep {s : State} {r : BagRecord} {d : Depositor} (held : s.dep r.depositor = some d) :
    s.trustHeld r = d.trust := by
  simp [State.trustHeld, held]

theorem State.postedReport_of_dep {s : State} {r : BagRecord} {d : Depositor} (held : s.dep r.depositor = some d)
    (counted : Nat) :
    s.postedReport r counted =
      { total := r.decl.total, counted := counted, difference := difference r.decl.total counted,
        within := s.agrees r counted, depositor := r.depositor, trustBefore := d.trust,
        trustAfter := trustAfter d.trust (s.agrees r counted) } := by
  rw [State.postedReport, State.trustHeld_of_dep held, State.trustHeld_of_dep (State.dep_post_self held counted)]

/-! ### POST RESULT (R164) -/

theorem BagRecord.awaitsResult_iff (r : BagRecord) :
    r.awaitsResult = true ↔ r.state = .taken ∨ (r.state = .released ∧ r.result = none) := by
  simp [BagRecord.awaitsResult]

theorem answerPostResult_range {n : BitVec 24} {v : BitVec 32}
    (out : 9999999 < v.toNat ∨ n.toNat = 0 ∨ 999999 < n.toNat) (s : State) :
    answerPostResult n v s = s.refused .range := by
  by_cases high : 9999999 < v.toNat
  · exact if_pos high
  · rw [answerPostResult, State.findKey_receipt_range (out.resolve_left high)]
    exact if_neg high

theorem answerPostResult_unknown {n : BitVec 24} {v : BitVec 32} {s : State} (value : v.toNat ≤ 9999999)
    (key : s.findKey (.receipt n) = .error .unknown) : answerPostResult n v s = s.refused .unknown := by
  rw [answerPostResult, key]
  exact if_neg (Nat.not_lt.2 value)

theorem answerPostResult_found {n : BitVec 24} {v : BitVec 32} {s : State} {r : BagRecord} (value : v.toNat ≤ 9999999)
    (key : s.findKey (.receipt n) = .ok r) :
    answerPostResult n v s =
      if r.awaitsResult then (s.post r v.toNat).okWith (.posted (s.postedReport r v.toNat)) else s.refused .state := by
  rw [answerPostResult, key]
  exact if_neg (Nat.not_lt.2 value)

/-- POST RESULT's part of O42: its tests in order, and what `State.post` writes where it is taken. -/
theorem postResultMovesTrust_holds : postResultMovesTrust := by
  rintro n v s _ take rfl
  have refuses {why} (owned : answerPostResult n v s = s.refused why) :
      exec (.postResult .branch n v) s = s.turnsAway .branch 0x48 why :=
    State.answerRequest_eq_turnsAway take rfl owned
  refine ⟨fun out => refuses (answerPostResult_range out s), fun value pos le => ⟨fun missing => ?unknown, ?_⟩⟩
  case unknown => exact refuses (answerPostResult_unknown value (State.findKey_receipt_unknown pos le missing))
  intro r found
  have owned := answerPostResult_found value (State.findKey_receipt_found pos le found)
  refine ⟨fun notTaken hasResult => refuses ?state, fun awaits => ?taken⟩
  case state =>
    rw [owned, if_neg]
    rw [BagRecord.awaitsResult_iff]
    rintro (taken | ⟨released, bare⟩)
    · exact notTaken taken
    · simp [released, bare] at hasResult
  case taken =>
    rw [if_pos (r.awaitsResult_iff.2 awaits)] at owned
    refine ⟨s.post r v.toNat, r.decl.total, s.postedReport r v.toNat, rfl,
      State.answerRequest_eq_answers take rfl owned, State.post_eq s r v.toNat, State.register_post s r v.toNat,
      fun j other => ?others, fun vacant => ?vacant, fun d held => ⟨_, rfl, ?trust, ?report⟩⟩
    case others => rw [State.dep_post, if_neg other.symm]
    case vacant => rw [State.dep_post, vacant, if_pos rfl, Option.map_none]
    case trust => simp [State.dep_post_self held, State.agrees_eq, trustAfter]
    case report => simp [State.postedReport_of_dep held, State.agrees_eq, trustAfter, difference]

/-! ### RETIRE (R165) -/

theorem answerRetire_refused {n : BitVec 24} {s : State} {why : Status} (key : s.findKey (.receipt n) = .error why) :
    answerRetire n s = s.refused why := by
  rw [answerRetire, key]

theorem answerRetire_found {n : BitVec 24} {s : State} {r : BagRecord} (key : s.findKey (.receipt n) = .ok r) :
    answerRetire n s =
      if r.state = .counted ∨ r.state = .released then (s.retire r).retiredReply r else s.refused .state := by
  rw [answerRetire, key]

theorem State.retire_eq (s : State) (r : BagRecord) :
    s.retire r = { s with register := (s.retire r).register, depositors := (s.retire r).depositors } := rfl

/-- A retirement does to the register what dropping the record does. -/
theorem State.register_retire (s : State) (r : BagRecord) : (s.retire r).register = (s.dropRecord r.tag).register := rfl

theorem State.dep_retire (s : State) (r : BagRecord) (j : DepIdx) :
    (s.retire r).dep j = if r.depositor = j
      then (s.dep j).map (fun d => { d with liveCount := d.liveCount - 1 }) else s.dep j :=
  State.dep_modDep _ _ _ _

theorem State.depositorLive_retire (s : State) (r : BagRecord) :
    (s.retire r).depositorLive r.depositor =
      ((s.dep r.depositor).map (fun d => d.liveCount - 1)).getD 0 := by
  rw [State.depositorLive, State.dep_retire, if_pos rfl]
  cases s.dep r.depositor <;> rfl

theorem State.retiredReply_retire (s : State) (r : BagRecord) :
    (s.retire r).retiredReply r = (s.retire r).okWith (.retired (s.retire r).register.records.length
      (((s.dep r.depositor).map (fun d => d.liveCount - 1)).getD 0)) := by
  rw [State.retiredReply, State.depositorLive_retire]
  rfl

/-- RETIRE's part of O42: its tests in order, and what `State.retire` frees where it is taken. -/
theorem retireFreesRecord_holds : retireFreesRecord := by
  rintro n s _ take rfl
  have refuses {why} (owned : answerRetire n s = s.refused why) :
      exec (.retire .branch n) s = s.turnsAway .branch 0x49 why :=
    State.answerRequest_eq_turnsAway take rfl owned
  refine ⟨fun out => ?range, fun pos le => ⟨fun missing => ?unknown, ?_⟩⟩
  case range => exact refuses (answerRetire_refused (State.findKey_receipt_range out s))
  case unknown => exact refuses (answerRetire_refused (State.findKey_receipt_unknown pos le missing))
  intro r found
  have owned := answerRetire_found (State.findKey_receipt_found pos le found)
  refine ⟨fun notCounted notReleased => refuses ?state, fun done => ?taken⟩
  case state => rw [owned, if_neg (not_or.2 ⟨notCounted, notReleased⟩)]
  case taken =>
    rw [if_pos done, State.retiredReply_retire] at owned
    refine ⟨s.retire r, State.answerRequest_eq_answers take rfl owned, State.retire_eq s r, rfl,
      State.findTag_dropRecord_self _ _, fun sound fields => ⟨?receipt, ?live⟩, fun j => ?deps⟩
    case receipt => exact State.findReceipt_dropRecord fields found
    case live => exact State.live_dropRecord sound (State.findReceipt_mem found)
    case deps => simp only [State.dep_retire, eq_comm]

/-- Settles O42: POST RESULT and RETIRE, each from its owner's answer and the equations of what it writes. -/
theorem postResultAndRetire : Obligations.PostResultAndRetire :=
  ⟨postResultMovesTrust_holds, retireFreesRecord_holds⟩

end Sys2Proof.Machine

/-!
The manifest drawn up at the branch (chapter 10): the front tests that ADD and REMOVE share (R176, R177), the records
that a CANCEL takes off the list (R179), and O47.
-/
namespace Sys2Proof.Machine

/-! ### The front tests of ADD and REMOVE (R176, R177) -/

theorem receiptOf_out {n : BitVec 24} (out : n.toNat = 0 ∨ 999999 < n.toNat) : receiptOf n = none :=
  if_neg (by omega)

theorem receiptOf_within {n : BitVec 24} (pos : 1 ≤ n.toNat) (le : n.toNat ≤ 999999) : receiptOf n = some n.toNat :=
  if_pos ⟨pos, le⟩

theorem Manifest.isOpen_iff (m : Manifest) : m.isOpen = true ↔ m.state = .building ∨ m.state = .sealed := by
  simp [Manifest.isOpen]

theorem Manifest.isOpen_eq_false {m : Manifest} (notBuilding : m.state ≠ .building) (notSealed : m.state ≠ .sealed) :
    m.isOpen = false := by
  simp [Manifest.isOpen, notBuilding, notSealed]

/-- Tests 1 to 3 of R176 and R177, and then an edit of the record that the receipt number names. -/
def State.editEntry (s : State) (receipt : BitVec 24) (edit : Nat → BagRecord → State × Answer) : State × Answer :=
  match receiptOf receipt with
  | none => s.refused .range
  | some n =>
    if s.manifest.isOpen = false then s.refused .state
    else
      match s.findReceipt n with
      | none => s.refused .unknown
      | some r => edit n r

theorem State.editEntry_range {s : State} {n : BitVec 24} {edit : Nat → BagRecord → State × Answer}
    (out : n.toNat = 0 ∨ 999999 < n.toNat) : s.editEntry n edit = s.refused .range := by
  rw [State.editEntry, receiptOf_out out]

theorem State.editEntry_of_within {s : State} {n : BitVec 24} {edit : Nat → BagRecord → State × Answer}
    (pos : 1 ≤ n.toNat) (le : n.toNat ≤ 999999) :
    (s.manifest.isOpen = false → s.editEntry n edit = s.refused .state) ∧
    (s.manifest.isOpen = true →
      (s.findReceipt n.toNat = none → s.editEntry n edit = s.refused .unknown) ∧
      ∀ r, s.findReceipt n.toNat = some r → s.editEntry n edit = edit n.toNat r) := by
  rw [State.editEntry, receiptOf_within pos le]
  refine ⟨fun shut => if_pos shut, fun opened => ⟨fun missing => ?_, fun r found => ?_⟩⟩
  · simp [opened, missing]
  · simp [opened, found]

/-- Tests 4 to 6 of R176 and the listing of the record that passes them. -/
def State.addEntry (s : State) (n : Nat) (r : BagRecord) : State × Answer :=
  match s.addRefusal r with
  | some why => s.refused why
  | none => (s.listRecord r n).entriesReply

theorem answerAdd_eq (n : BitVec 24) (s : State) : answerAdd n s = s.editEntry n s.addEntry := rfl

/-- Test 4 of R177 and the removal of the entry that passes it. -/
def State.removeEntry (s : State) (n : Nat) (r : BagRecord) : State × Answer :=
  if r.state = .listed then (s.unlistRecord r n).entriesReply else s.refused .notListed

theorem answerRemoveManifestEntry_eq (n : BitVec 24) (s : State) :
    answerRemoveManifestEntry n s = s.editEntry n s.removeEntry := rfl

/-! ### ADD (R176) -/

theorem State.addEntry_refused {s : State} {n : Nat} {r : BagRecord} {why : Status}
    (refusal : s.addRefusal r = some why) : s.addEntry n r = s.refused why := by
  rw [State.addEntry, refusal]

theorem State.addEntry_listed {s : State} {n : Nat} {r : BagRecord} (held : r.state = .held)
    (room : s.manifest.entries.length < 64) :
    s.addEntry n r = (s.listRecord r n).okWith (.entries (s.manifest.entries.length + 1)) := by
  have passes : s.addRefusal r = none := by
    simp [State.addRefusal, held, maxEntries, Nat.not_le.2 room]
  have count : (s.listRecord r n).manifest.entries.length = s.manifest.entries.length + 1 := List.length_append
  rw [State.addEntry, passes, ← count]
  rfl

theorem State.listRecord_eq (s : State) (r : BagRecord) (n : Nat) :
    s.listRecord r n = { s with
      register := { s.register with
        records := s.register.records.map (fun x => if x.tag = r.tag then { x with state := .listed } else x) }
      manifest := { s.manifest with entries := s.manifest.entries ++ [n] } } := rfl

/-- ADD's part of O47: its tests in order, and what `State.listRecord` writes where they pass. -/
theorem addLists_holds : addLists := by
  rintro n s _ take rfl
  have refuses {why} (owned : s.editEntry n s.addEntry = s.refused why) :
      exec (.add .branch n) s = s.turnsAway .branch 0x51 why :=
    State.answerRequest_eq_turnsAway take rfl ((answerAdd_eq n s).trans owned)
  have takes {t x} (owned : s.editEntry n s.addEntry = State.okWith t x) :
      exec (.add .branch n) s = t.answers .branch 0x51 x :=
    State.answerRequest_eq_answers take rfl ((answerAdd_eq n s).trans owned)
  refine ⟨fun out => refuses (State.editEntry_range out), fun pos le => ?_⟩
  obtain ⟨shutRefused, openEdits⟩ := State.editEntry_of_within (s := s) (edit := s.addEntry) pos le
  refine ⟨fun notBuilding notSealed => refuses (shutRefused (Manifest.isOpen_eq_false notBuilding notSealed)),
    fun drawnUp => ?_⟩
  obtain ⟨missingRefused, foundEdits⟩ := openEdits (s.manifest.isOpen_iff.2 drawnUp)
  refine ⟨fun missing => refuses (missingRefused missing), fun r found => ?_⟩
  have edits := foundEdits r found
  have turnsDown {why} (refusal : s.addRefusal r = some why) :
      exec (.add .branch n) s = s.turnsAway .branch 0x51 why :=
    refuses (edits.trans (State.addEntry_refused refusal))
  refine ⟨fun listed => turnsDown ?duplicate, fun notListed notHeld => turnsDown ?state,
    fun held full => turnsDown ?full, fun held room => ⟨_, rfl, ?taken⟩⟩
  case duplicate => simp [State.addRefusal, listed]
  case state => simp [State.addRefusal, notListed, notHeld]
  case full => simp [State.addRefusal, held, maxEntries, full]
  case taken =>
    rw [← State.listRecord_eq]
    exact takes (edits.trans (State.addEntry_listed held room))

/-! ### REMOVE of a manifest entry (R177, R178) -/

theorem State.unlistRecord_eq (s : State) (r : BagRecord) (n : Nat) :
    s.unlistRecord r n = { s with
      register := { s.register with
        records := s.register.records.map (fun x => if x.tag = r.tag then { x with state := .held } else x) }
      manifest := { s.manifest with
        entries := s.manifest.entries.erase n
        state := if s.manifest.state = .sealed ∧ s.manifest.entries.erase n = [] then .building
          else s.manifest.state } } := rfl

theorem State.removeEntry_listed {s : State} {n : Nat} {r : BagRecord} (listed : r.state = .listed) :
    s.removeEntry n r = (s.unlistRecord r n).okWith (.entries (s.manifest.entries.erase n).length) :=
  if_pos listed

theorem State.removeEntry_notListed {s : State} {n : Nat} {r : BagRecord} (other : r.state ≠ .listed) :
    s.removeEntry n r = s.refused .notListed :=
  if_neg other

/-! ### CANCEL (R179) -/

/-- A LISTED record that one of the entries names becomes HELD again (R18). -/
def BagRecord.delistedBy (entries : List Nat) (r : BagRecord) : BagRecord :=
  if r.state = .listed ∧ (∃ n ∈ entries, r.receipt = some n) then { r with state := .held } else r

theorem State.delist_eq (s : State) (n : Nat) :
    s.delist n = { s with register := { s.register with
      records := s.register.records.map (BagRecord.delistedBy [n]) } } := by
  simp [State.delist, BagRecord.delistedBy, and_comm]

/-- Once HELD, a record is left alone by the entries after the one that named it. -/
theorem BagRecord.delistedBy_cons (n : Nat) (rest : List Nat) (r : BagRecord) :
    BagRecord.delistedBy (n :: rest) r = BagRecord.delistedBy rest (BagRecord.delistedBy [n] r) := by
  by_cases named : r.state = .listed ∧ r.receipt = some n
  · obtain ⟨listed, receipt⟩ := named
    simp [BagRecord.delistedBy, listed, receipt]
  · have kept : BagRecord.delistedBy [n] r = r := if_neg (by simpa using named)
    rw [kept]
    by_cases listed : r.state = .listed
    · have other : r.receipt ≠ some n := fun receipt => named ⟨listed, receipt⟩
      simp [BagRecord.delistedBy, listed, other]
    · simp [BagRecord.delistedBy, listed]

theorem BagRecord.delistedBy_nil : BagRecord.delistedBy [] = id := by
  funext r
  simp [BagRecord.delistedBy]

/-- Taking the entries off the list one after another is one pass over the records. -/
theorem State.foldl_delist (entries : List Nat) (s : State) :
    entries.foldl State.delist s = { s with register := { s.register with
      records := s.register.records.map (BagRecord.delistedBy entries) } } := by
  induction entries generalizing s with
  | nil => rw [BagRecord.delistedBy_nil, List.map_id]; rfl
  | cons n rest ih =>
    have passes : BagRecord.delistedBy (n :: rest) = BagRecord.delistedBy rest ∘ BagRecord.delistedBy [n] :=
      funext (BagRecord.delistedBy_cons n rest)
    rw [List.foldl_cons, ih, State.delist_eq, passes, ← List.map_map]

theorem answerCancel_active {s : State} (active : s.manifest.state = .active) : answerCancel s = s.refused .state :=
  if_pos active

theorem answerCancel_taken {s : State} (idle : s.manifest.state ≠ .active) :
    answerCancel s = State.okWith
      { s with
        register := { s.register with
          records := s.register.records.map (BagRecord.delistedBy s.manifest.entries) }
        manifest := emptyManifest }
      (.entries s.manifest.entries.length) := by
  rw [answerCancel, if_neg idle, State.foldl_delist]

/-- The part of O47 for REMOVE and CANCEL: their tests in order, and the records that become HELD again. -/
theorem removeAndCancelDelist_holds : removeAndCancelDelist := by
  intro s take
  have refuses {n why} (owned : s.editEntry n s.removeEntry = s.refused why) :
      exec (.removeManifestEntry .branch n) s = s.turnsAway .branch 0x52 why :=
    State.answerRequest_eq_turnsAway take rfl ((answerRemoveManifestEntry_eq n s).trans owned)
  have takes {n t x} (owned : s.editEntry n s.removeEntry = State.okWith t x) :
      exec (.removeManifestEntry .branch n) s = t.answers .branch 0x52 x :=
    State.answerRequest_eq_answers take rfl ((answerRemoveManifestEntry_eq n s).trans owned)
  refine ⟨fun n out => refuses (State.editEntry_range out), ?remove,
    fun active => State.answerRequest_eq_turnsAway take rfl (answerCancel_active active),
    fun idle => ⟨_, State.answerRequest_eq_answers take rfl (answerCancel_taken idle), rfl, rfl⟩⟩
  case remove =>
    rintro n _ rfl pos le
    obtain ⟨shutRefused, openEdits⟩ := State.editEntry_of_within (s := s) (edit := s.removeEntry) pos le
    refine ⟨fun notBuilding notSealed => refuses (shutRefused (Manifest.isOpen_eq_false notBuilding notSealed)),
      fun drawnUp => ?_⟩
    obtain ⟨missingRefused, foundEdits⟩ := openEdits (s.manifest.isOpen_iff.2 drawnUp)
    refine ⟨fun missing => refuses (missingRefused missing), fun r found => ?_⟩
    have edits := foundEdits r found
    refine ⟨fun other => refuses (edits.trans (State.removeEntry_notListed other)),
      fun listed => ⟨_, _, rfl, rfl, ?_⟩⟩
    rw [← State.unlistRecord_eq]
    exact takes (edits.trans (State.removeEntry_listed listed))

/-- Settles O47: ADD and REMOVE from the front tests they share, CANCEL from the one pass that its entries make over
the records. -/
theorem manifestEdits : Obligations.ManifestEdits :=
  ⟨addLists_holds, removeAndCancelDelist_holds⟩

end Sys2Proof.Machine
